-- ==== Sys2Proof/Word.lean ====
section
/-! DEFINITION. The word types of the PS/2 packet decoder block: bytes, coordinates, the firmware
version, and six bytes numbered in arrival order (R10, R12, R22, R32, R35). -/

namespace Sys2Proof

/-- An octet; bit 0 is its least significant bit (R10). -/
abbrev Byte := BitVec 8

/-- A coordinate register or value, 16 bits, unsigned (`COORD_W`, R6, R12). -/
abbrev Coord := BitVec 16

/-- A firmware version: bits 23:16 major, 15:8 minor, 7:0 micro (R22). -/
abbrev Firmware := BitVec 24

/-- Six bytes in arrival order: the packet buffer `buf` (R32), the pending packet `pend` (R35), and a
packet handed to a decoder. A V1 packet is the first four; the other two are then ignored. -/
structure Packet where
  b0 : Byte
  b1 : Byte
  b2 : Byte
  b3 : Byte
  b4 : Byte
  b5 : Byte
  deriving DecidableEq, Repr

/-- Six zero bytes. -/
def Packet.zero : Packet := ⟨0, 0, 0, 0, 0, 0⟩

end Sys2Proof
end

