-- ==== Sys2Proof/Config.lean ====
section
/-! DEFINITION. What is fixed for a session and what reaches the block from outside: the four
protocol variants and the two eras (R2), the control registers that INIT loads (R7, R21 to R30), and
the events on the input ports (R8). -/

namespace Sys2Proof

/-- The four protocol variants, `cfg.hw_version` (R2, R21). -/
inductive HwVersion where
  | v1
  | v2
  | v3
  | focal
  deriving DecidableEq, Repr

/-- The firmware era, read by V1 only (R2, R22). -/
inductive Era where
  | old
  | new
  deriving DecidableEq, Repr

/-- The ten control registers, which are also the argument of INIT (R7, R20 to R30). -/
structure SessionConfig where
  hwVersion : HwVersion
  firmwareVersion : Firmware
  xMax : Coord
  yMax : Coord
  yMax2ft : Coord
  reportsPressure : Bool
  jumpyCursorWorkaround : Bool
  hasRocker : Bool
  paritycheck : Bool
  debug : Bool
  deriving DecidableEq, Repr

/-- One event on the input ports (R8): a byte on `byte_in` with its strobe, or one operation on
`host_op`. The two never come together, so an event is one or the other. -/
inductive Event where
  | byte (b : Byte)
  | init (c : SessionConfig)
  | disconnect
  | setParitycheck (v : Bool)
  | setDebug (v : Bool)
  deriving DecidableEq, Repr

end Sys2Proof
end

