-- ==== Sys2Proof/Syntax.lean ====
section
/-! DEFINITION. The operations of the block as syntax: one record of decoded fields per packet format
(R90 to R104) and the one inductive `Instr`, a constructor per mnemonic of spec/opcode_table.json. -/

namespace Sys2Proof

/-- Format `V1.OLD` (R91): every bit of it that is not ignored. -/
structure V1OldForm where
  left : Bool
  right : Bool
  p1 : Bool
  p2 : Bool
  p3 : Bool
  f : Bool
  m : BitVec 2
  x : BitVec 10
  y : BitVec 10
  forward : Bool
  back : Bool
  deriving DecidableEq, Repr

/-- Format `V1.NEW` (R92). -/
structure V1NewForm where
  left : Bool
  right : Bool
  p1 : Bool
  p2 : Bool
  p3 : Bool
  fingers : BitVec 2
  x : BitVec 10
  y : BitVec 10
  deriving DecidableEq, Repr

/-- Format `V2.NONE` (R96). -/
structure V2NoneForm where
  left : Bool
  right : Bool
  deriving DecidableEq, Repr

/-- Format `V2.ONE` (R94), the count field and the overflow bit apart: those are the constructor. -/
structure V2OneForm where
  left : Bool
  right : Bool
  x : BitVec 11
  y : BitVec 10
  pressure : BitVec 8
  width : BitVec 4
  deriving DecidableEq, Repr

/-- Format `V2.TWO` (R95): finger a, then finger b. -/
structure V2TwoForm where
  left : Bool
  right : Bool
  ax : BitVec 9
  ay : BitVec 9
  bx : BitVec 9
  bY : BitVec 9
  deriving DecidableEq, Repr

/-- Format `V3` (R98) of a packet with count field 0: its position bits are not read (R195). -/
structure V3NoneForm where
  left : Bool
  right : Bool
  pressure : BitVec 8
  width : BitVec 4
  deriving DecidableEq, Repr

/-- Format `V3` (R98) of a packet with count field 1 or 3. -/
structure V3OneForm where
  left : Bool
  right : Bool
  x : BitVec 12
  y : BitVec 12
  pressure : BitVec 8
  width : BitVec 4
  deriving DecidableEq, Repr

/-- Format `V3` (R98) of a TAIL: count field 2, and `h` is `b[0][3:2]`, which is not the HEAD value. -/
structure V3TailForm where
  left : Bool
  right : Bool
  h : BitVec 2
  x : BitVec 12
  y : BitVec 12
  pressure : BitVec 8
  width : BitVec 4
  deriving DecidableEq, Repr

/-- Format `FOC.TOUCH` (R100). -/
structure FocTouchForm where
  pressed : Bool
  bitmap : BitVec 5
  deriving DecidableEq, Repr

/-- Format `FOC.ABS` (R101): `yHi` is byte 3, `z` the contact-size byte. -/
structure FocAbsForm where
  pressed : Bool
  fidx : BitVec 4
  x : BitVec 12
  yHi : Byte
  yLo : Byte
  z : Byte
  deriving DecidableEq, Repr

/-- Format `FOC.REL` (R102): two index fields, two pairs of delta bytes. -/
structure FocRelForm where
  pressed : Bool
  idx1 : BitVec 3
  dx1 : Byte
  dy1 : Byte
  idx2 : BitVec 3
  dx2 : Byte
  dy2 : Byte
  deriving DecidableEq, Repr

/-- The operations (R9, R110): sixteen packet operations, FEED, and the four host operations. -/
inductive Instr where
  | v1Old (o : V1OldForm)
  | v1New (o : V1NewForm)
  | v2F0 (o : V2NoneForm)
  | v2F1 (o : V2OneForm)
  | v2F2 (o : V2TwoForm)
  | v2F3 (o : V2OneForm)
  | v2F4 (o : V2OneForm)
  | v3F0 (o : V3NoneForm)
  | v3F1 (o : V3OneForm)
  | v3F3 (o : V3OneForm)
  /-- The operand is the whole packet, because all six bytes are stored (R192). -/
  | v3Head (p : Packet)
  | v3Tail (o : V3TailForm)
  | focTouch (o : FocTouchForm)
  | focAbs (o : FocAbsForm)
  | focRel (o : FocRelForm)
  | focUnk (kind : BitVec 4)
  | feed (b : Byte)
  | init (c : SessionConfig)
  | disconnect
  | setParitycheck (v : Bool)
  | setDebug (v : Bool)
  deriving DecidableEq, Repr

end Sys2Proof
end

