-- ==== Sys2Proof/WellFormed.lean ====
section
/-! DEFINITION. Which terms of `Instr` are operations of the block. A V3 HEAD must carry the HEAD
selector bits, a V3 TAIL must not, and an unknown FOCAL kind must not be a known one (R98, R103,
R110); every other term is well formed, since every field value is legal (R115, R251). -/

namespace Sys2Proof

/-- The instruction is one that the block can be asked to perform. -/
def Instr.wellFormed : Instr → Bool
  | .v1Old _ => true
  | .v1New _ => true
  | .v2F0 _ => true
  | .v2F1 _ => true
  | .v2F2 _ => true
  | .v2F3 _ => true
  | .v2F4 _ => true
  | .v3F0 _ => true
  | .v3F1 _ => true
  | .v3F3 _ => true
  | .v3Head p => p.b0.extractLsb 7 6 == 2#2 && p.b0.extractLsb 3 2 == 1#2
  | .v3Tail o => o.h != 1#2
  | .focTouch _ => true
  | .focAbs _ => true
  | .focRel _ => true
  | .focUnk k => k != 3#4 && k != 6#4 && k != 9#4
  | .feed _ => true
  | .init _ => true
  | .disconnect => true
  | .setParitycheck _ => true
  | .setDebug _ => true

/-- The instruction is a packet operation, performed when FEED completes a packet (R9). -/
def Instr.isPacketOp : Instr → Bool
  | .v1Old _ => true
  | .v1New _ => true
  | .v2F0 _ => true
  | .v2F1 _ => true
  | .v2F2 _ => true
  | .v2F3 _ => true
  | .v2F4 _ => true
  | .v3F0 _ => true
  | .v3F1 _ => true
  | .v3F3 _ => true
  | .v3Head _ => true
  | .v3Tail _ => true
  | .focTouch _ => true
  | .focAbs _ => true
  | .focRel _ => true
  | .focUnk _ => true
  | .feed _ => false
  | .init _ => false
  | .disconnect => false
  | .setParitycheck _ => false
  | .setDebug _ => false

end Sys2Proof
end

