-- ==== Sys2Proof/Decode.lean ====
section
/-! DEFINITION. From bytes to operations and back: packet sizes and eras (R22, R131), the layout of
every field in one section (R91 to R104; the positions 92_eei_decisions.md decides stand here and
nowhere else), the selector (R110), the decoder, the encoder (canonical encoding, R120), the rows of
the opcode table (R111), and the decoding of one table word. -/

namespace Sys2Proof

/-- `S`, the number of bytes of a packet (R6, R131). -/
def packetSize : HwVersion → Nat
  | .v1 => 4
  | .v2 => 6
  | .v3 => 6
  | .focal => 6

/-- The era of a firmware version: OLD below 0x020000, else NEW (R2, R22). -/
def eraOf (fw : Firmware) : Era :=
  if fw.toNat < 0x020000 then .old else .new

/-! ### Layout: where each field lies

`p.b1.extractLsb 3 2 ++ p.b2` is the spec's `{b[1][3:2], b[2]}`: the high part first (R11, R67). -/

namespace Layout

/-- L, in every V1, V2 and V3 packet (R93, R97, R99; D5, D14). -/
def left (p : Packet) : Bool := p.b0.getLsbD 0

/-- R, in every V1, V2 and V3 packet (R93, R97, R99; D5, D14). -/
def right (p : Packet) : Bool := p.b0.getLsbD 1

/-- `x_raw` of V1 (R93; D5). -/
def v1X (p : Packet) : BitVec 10 := p.b1.extractLsb 3 2 ++ p.b2

/-- `y_raw` of V1 (R93; D5). -/
def v1Y (p : Packet) : BitVec 10 := p.b1.extractLsb 1 0 ++ p.b3

/-- `p1` of V1 by era (R93, R143; D6). -/
def v1P1 (era : Era) (p : Packet) : Bool :=
  match era with
  | .old => p.b0.getLsbD 5
  | .new => p.b0.getLsbD 4

/-- `p2` of V1 by era (R93, R143; D6). -/
def v1P2 (era : Era) (p : Packet) : Bool :=
  match era with
  | .old => p.b0.getLsbD 4
  | .new => p.b0.getLsbD 5

/-- `p3` of V1, bit 2 of byte 0 in both eras (R93, R143). -/
def v1P3 (p : Packet) : Bool := p.b0.getLsbD 2

/-- `f`, the touch bit of era OLD (R91; D7). -/
def v1OldF (p : Packet) : Bool := p.b1.getLsbD 7

/-- `m1 m0`, the count bits of era OLD (R91; D7). -/
def v1OldM (p : Packet) : BitVec 2 := p.b1.extractLsb 5 4

/-- FW, rocker up, era OLD (R91; D8). -/
def v1OldForward (p : Packet) : Bool := p.b0.getLsbD 6

/-- BK, rocker down, era OLD (R91; D8). -/
def v1OldBack (p : Packet) : Bool := p.b0.getLsbD 7

/-- `n1 n0`, the finger count of era NEW (R92, R151). -/
def v1NewFingers (p : Packet) : BitVec 2 := p.b0.extractLsb 7 6

/-- The count field of V2 and V3 (R97, R99; D11, D16). -/
def count (p : Packet) : BitVec 2 := p.b0.extractLsb 7 6

/-- `n4`, the overflow bit of V2 (R97, R174; D11). -/
def v2Overflow (p : Packet) : Bool := p.b3.getLsbD 7

/-- `x_raw` of `V2.ONE` (R97; D12). -/
def v2X (p : Packet) : BitVec 11 := p.b1.extractLsb 2 0 ++ p.b2

/-- `y_raw` of `V2.ONE` (R97; D12). -/
def v2Y (p : Packet) : BitVec 10 := p.b4.extractLsb 1 0 ++ p.b5

/-- Pressure of `V2.ONE` and of V3 (R97, R99; D12, D17). -/
def pressure (p : Packet) : BitVec 8 := p.b1.extractLsb 7 4 ++ p.b4.extractLsb 7 4

/-- Width of `V2.ONE` and of V3 (R97, R99; D12, D17). -/
def width (p : Packet) : BitVec 4 := p.b0.extractLsb 5 4 ++ p.b3.extractLsb 5 4

/-- `ax` of `V2.TWO` (R97; D13). -/
def v2Ax (p : Packet) : BitVec 9 := p.b0.extractLsb 4 4 ++ p.b1

/-- `ay` of `V2.TWO` (R97; D13). -/
def v2Ay (p : Packet) : BitVec 9 := p.b0.extractLsb 5 5 ++ p.b2

/-- `bx` of `V2.TWO` (R97; D13). -/
def v2Bx (p : Packet) : BitVec 9 := p.b3.extractLsb 4 4 ++ p.b4

/-- `by` of `V2.TWO` (R97; D13). -/
def v2By (p : Packet) : BitVec 9 := p.b3.extractLsb 5 5 ++ p.b5

/-- `h1 h0` of V3 (R98; D16). -/
def v3H (p : Packet) : BitVec 2 := p.b0.extractLsb 3 2

/-- `pos_x` of V3, of the current or of the pending packet (R99; D17). -/
def v3X (p : Packet) : BitVec 12 := p.b1.extractLsb 3 0 ++ p.b2

/-- `pos_yraw` of V3, of the current or of the pending packet (R99; D17). -/
def v3Y (p : Packet) : BitVec 12 := p.b4.extractLsb 3 0 ++ p.b5

/-- The kind nibble of FOCAL (R104). -/
def focKind (p : Packet) : BitVec 4 := p.b0.extractLsb 3 0

/-- The click bit of Touch and Abs packets (R104). -/
def focPressedLow (p : Packet) : Bool := p.b0.getLsbD 4

/-- The click bit of Rel packets (R104, R221(g)). -/
def focPressedRel (p : Packet) : Bool := p.b0.getLsbD 7

/-- The activity bitmap of a Touch packet (R104; D23). -/
def focBitmap (p : Packet) : BitVec 5 := p.b1.extractLsb 4 0

/-- The finger nibble of an Abs packet (R104; D24). -/
def focFidx (p : Packet) : BitVec 4 := p.b1.extractLsb 7 4

/-- `x` of an Abs packet (R104; D24). -/
def focX (p : Packet) : BitVec 12 := p.b1.extractLsb 3 0 ++ p.b2

/-- `idx1` of a Rel packet (R104; D26). -/
def focIdx1 (p : Packet) : BitVec 3 := p.b0.extractLsb 6 4

/-- `idx2` of a Rel packet (R104; D26). -/
def focIdx2 (p : Packet) : BitVec 3 := p.b3.extractLsb 6 4

end Layout

/-! ### The decoder -/

/-- Era OLD of V1 (R91, R110). -/
def decodeV1Old (p : Packet) : Instr :=
  .v1Old {
    left := Layout.left p
    right := Layout.right p
    p1 := Layout.v1P1 .old p
    p2 := Layout.v1P2 .old p
    p3 := Layout.v1P3 p
    f := Layout.v1OldF p
    m := Layout.v1OldM p
    x := Layout.v1X p
    y := Layout.v1Y p
    forward := Layout.v1OldForward p
    back := Layout.v1OldBack p }

/-- Era NEW of V1 (R92, R110). -/
def decodeV1New (p : Packet) : Instr :=
  .v1New {
    left := Layout.left p
    right := Layout.right p
    p1 := Layout.v1P1 .new p
    p2 := Layout.v1P2 .new p
    p3 := Layout.v1P3 p
    fingers := Layout.v1NewFingers p
    x := Layout.v1X p
    y := Layout.v1Y p }

/-- The fields of format `V2.ONE` (R94, R97). -/
def v2OneForm (p : Packet) : V2OneForm :=
  { left := Layout.left p
    right := Layout.right p
    x := Layout.v2X p
    y := Layout.v2Y p
    pressure := Layout.pressure p
    width := Layout.width p }

/-- The fields of format `V2.TWO` (R95, R97). -/
def v2TwoForm (p : Packet) : V2TwoForm :=
  { left := Layout.left p
    right := Layout.right p
    ax := Layout.v2Ax p
    ay := Layout.v2Ay p
    bx := Layout.v2Bx p
    bY := Layout.v2By p }

/-- V2: the count field, and at 3 the overflow bit, select (R97, R110). -/
def decodeV2 (p : Packet) : Instr :=
  if Layout.count p = 0#2 then .v2F0 { left := Layout.left p, right := Layout.right p }
  else if Layout.count p = 1#2 then .v2F1 (v2OneForm p)
  else if Layout.count p = 2#2 then .v2F2 (v2TwoForm p)
  else if Layout.v2Overflow p then .v2F4 (v2OneForm p)
  else .v2F3 (v2OneForm p)

/-- The fields of a V3 packet with one position (R98, R99). -/
def v3OneForm (p : Packet) : V3OneForm :=
  { left := Layout.left p
    right := Layout.right p
    x := Layout.v3X p
    y := Layout.v3Y p
    pressure := Layout.pressure p
    width := Layout.width p }

/-- The fields of a V3 TAIL (R98, R99). -/
def v3TailForm (p : Packet) : V3TailForm :=
  { left := Layout.left p
    right := Layout.right p
    h := Layout.v3H p
    x := Layout.v3X p
    y := Layout.v3Y p
    pressure := Layout.pressure p
    width := Layout.width p }

/-- V3: the count field, and at 2 the HEAD pattern, select (R99, R110, R191). -/
def decodeV3 (p : Packet) : Instr :=
  if Layout.count p = 0#2 then
    .v3F0 {
      left := Layout.left p
      right := Layout.right p
      pressure := Layout.pressure p
      width := Layout.width p }
  else if Layout.count p = 1#2 then .v3F1 (v3OneForm p)
  else if Layout.count p = 3#2 then .v3F3 (v3OneForm p)
  else if Layout.v3H p = 1#2 then .v3Head p
  else .v3Tail (v3TailForm p)

/-- FOCAL: the kind nibble selects (R104, R110). -/
def decodeFocal (p : Packet) : Instr :=
  if Layout.focKind p = 3#4 then
    .focTouch { pressed := Layout.focPressedLow p, bitmap := Layout.focBitmap p }
  else if Layout.focKind p = 6#4 then
    .focAbs {
      pressed := Layout.focPressedLow p
      fidx := Layout.focFidx p
      x := Layout.focX p
      yHi := p.b3
      yLo := p.b4
      z := p.b5 }
  else if Layout.focKind p = 9#4 then
    .focRel {
      pressed := Layout.focPressedRel p
      idx1 := Layout.focIdx1 p
      dx1 := p.b1
      dy1 := p.b2
      idx2 := Layout.focIdx2 p
      dx2 := p.b4
      dy2 := p.b5 }
  else .focUnk (Layout.focKind p)

/-- The operation a completed packet selects (R110): total, as no bit pattern is illegal (R115). -/
def decodePacket (hw : HwVersion) (era : Era) (p : Packet) : Instr :=
  match hw with
  | .v1 =>
    match era with
    | .old => decodeV1Old p
    | .new => decodeV1New p
  | .v2 => decodeV2 p
  | .v3 => decodeV3 p
  | .focal => decodeFocal p

/-- Why a byte list is no packet. -/
inductive DecodeError where
  /-- Fewer bytes than a packet of the variant has (R90). -/
  | incompletePacket (got need : Nat)
  deriving DecidableEq, Repr

/-- The first packet of a byte list, and the bytes after it (R68, R90). -/
def takePacket (hw : HwVersion) (bytes : List Byte) : Option (Packet × List Byte) :=
  match hw, bytes with
  | .v1, b0 :: b1 :: b2 :: b3 :: rest => some (⟨b0, b1, b2, b3, 0, 0⟩, rest)
  | .v2, b0 :: b1 :: b2 :: b3 :: b4 :: b5 :: rest => some (⟨b0, b1, b2, b3, b4, b5⟩, rest)
  | .v3, b0 :: b1 :: b2 :: b3 :: b4 :: b5 :: rest => some (⟨b0, b1, b2, b3, b4, b5⟩, rest)
  | .focal, b0 :: b1 :: b2 :: b3 :: b4 :: b5 :: rest => some (⟨b0, b1, b2, b3, b4, b5⟩, rest)
  | _, _ => none

/-- The operation at the front of a byte list, in a session of this variant and era, and the bytes
after it; a list shorter than a packet is rejected by name. -/
def decodeBytes (hw : HwVersion) (era : Era) (bytes : List Byte) :
    Except DecodeError (Instr × List Byte) :=
  match takePacket hw bytes with
  | some (p, rest) => .ok (decodePacket hw era p, rest)
  | none => .error (.incompletePacket bytes.length (packetSize hw))

/-- The operation that a port event asks for (R8): FEED and the host operations have no bit encoding
(R110, R250). -/
def decodeEvent : Event → Instr
  | .byte b => .feed b
  | .init c => .init c
  | .disconnect => .disconnect
  | .setParitycheck v => .setParitycheck v
  | .setDebug v => .setDebug v

/-! ### The encoder: canonical encodings, every ignored bit 0 (R120) -/

/-- A byte from its bits, written as the columns 7 down to 0 of a format table. -/
def byteOfBits (b7 b6 b5 b4 b3 b2 b1 b0 : Bool) : Byte :=
  BitVec.ofNat 8 (b7.toNat * 128 + b6.toNat * 64 + b5.toNat * 32 + b4.toNat * 16 +
    b3.toNat * 8 + b2.toNat * 4 + b1.toNat * 2 + b0.toNat)

/-- The low eight bits of a field. -/
def lowByte {n : Nat} (v : BitVec n) : Byte := v.setWidth 8

/-- Format `V1.OLD` (R91). -/
def encodeV1Old (o : V1OldForm) : Packet :=
  { b0 := byteOfBits o.back o.forward o.p1 o.p2 false o.p3 o.right o.left
    b1 := byteOfBits o.f false (o.m.getLsbD 1) (o.m.getLsbD 0)
      (o.x.getLsbD 9) (o.x.getLsbD 8) (o.y.getLsbD 9) (o.y.getLsbD 8)
    b2 := lowByte o.x
    b3 := lowByte o.y
    b4 := 0
    b5 := 0 }

/-- Format `V1.NEW` (R92). -/
def encodeV1New (o : V1NewForm) : Packet :=
  { b0 := byteOfBits (o.fingers.getLsbD 1) (o.fingers.getLsbD 0) o.p2 o.p1 false o.p3 o.right o.left
    b1 := byteOfBits false false false false
      (o.x.getLsbD 9) (o.x.getLsbD 8) (o.y.getLsbD 9) (o.y.getLsbD 8)
    b2 := lowByte o.x
    b3 := lowByte o.y
    b4 := 0
    b5 := 0 }

/-- Format `V2.NONE` (R96). -/
def encodeV2None (o : V2NoneForm) : Packet :=
  { Packet.zero with b0 := byteOfBits false false false false false false o.right o.left }

/-- Format `V2.ONE` (R94) with count field `n1 n0` and overflow bit `n4`. -/
def encodeV2One (n1 n0 n4 : Bool) (o : V2OneForm) : Packet :=
  { b0 := byteOfBits n1 n0 (o.width.getLsbD 3) (o.width.getLsbD 2) false false o.right o.left
    b1 := byteOfBits (o.pressure.getLsbD 7) (o.pressure.getLsbD 6) (o.pressure.getLsbD 5)
      (o.pressure.getLsbD 4) false (o.x.getLsbD 10) (o.x.getLsbD 9) (o.x.getLsbD 8)
    b2 := lowByte o.x
    b3 := byteOfBits n4 false (o.width.getLsbD 1) (o.width.getLsbD 0) false false false false
    b4 := byteOfBits (o.pressure.getLsbD 3) (o.pressure.getLsbD 2) (o.pressure.getLsbD 1)
      (o.pressure.getLsbD 0) false false (o.y.getLsbD 9) (o.y.getLsbD 8)
    b5 := lowByte o.y }

/-- Format `V2.TWO` (R95). -/
def encodeV2Two (o : V2TwoForm) : Packet :=
  { b0 := byteOfBits true false (o.ay.getLsbD 8) (o.ax.getLsbD 8) false false o.right o.left
    b1 := lowByte o.ax
    b2 := lowByte o.ay
    b3 := byteOfBits false false (o.bY.getLsbD 8) (o.bx.getLsbD 8) false false false false
    b4 := lowByte o.bx
    b5 := lowByte o.bY }

/-- Format `V3` (R98) from its columns. -/
def encodeV3 (n1 n0 h1 h0 : Bool) (left right : Bool) (x y : BitVec 12) (pressure : BitVec 8)
    (width : BitVec 4) : Packet :=
  { b0 := byteOfBits n1 n0 (width.getLsbD 3) (width.getLsbD 2) h1 h0 right left
    b1 := byteOfBits (pressure.getLsbD 7) (pressure.getLsbD 6) (pressure.getLsbD 5)
      (pressure.getLsbD 4) (x.getLsbD 11) (x.getLsbD 10) (x.getLsbD 9) (x.getLsbD 8)
    b2 := lowByte x
    b3 := byteOfBits false false (width.getLsbD 1) (width.getLsbD 0) false false false false
    b4 := byteOfBits (pressure.getLsbD 3) (pressure.getLsbD 2) (pressure.getLsbD 1)
      (pressure.getLsbD 0) (y.getLsbD 11) (y.getLsbD 10) (y.getLsbD 9) (y.getLsbD 8)
    b5 := lowByte y }

/-- Format `FOC.TOUCH` (R100). -/
def encodeFocTouch (o : FocTouchForm) : Packet :=
  { Packet.zero with
    b0 := byteOfBits false false false o.pressed false false true true
    b1 := o.bitmap.setWidth 8 }

/-- Format `FOC.ABS` (R101). -/
def encodeFocAbs (o : FocAbsForm) : Packet :=
  { b0 := byteOfBits false false false o.pressed false true true false
    b1 := byteOfBits (o.fidx.getLsbD 3) (o.fidx.getLsbD 2) (o.fidx.getLsbD 1) (o.fidx.getLsbD 0)
      (o.x.getLsbD 11) (o.x.getLsbD 10) (o.x.getLsbD 9) (o.x.getLsbD 8)
    b2 := lowByte o.x
    b3 := o.yHi
    b4 := o.yLo
    b5 := o.z }

/-- Format `FOC.REL` (R102). -/
def encodeFocRel (o : FocRelForm) : Packet :=
  { b0 := byteOfBits o.pressed (o.idx1.getLsbD 2) (o.idx1.getLsbD 1) (o.idx1.getLsbD 0)
      true false false true
    b1 := o.dx1
    b2 := o.dy1
    b3 := byteOfBits false (o.idx2.getLsbD 2) (o.idx2.getLsbD 1) (o.idx2.getLsbD 0)
      false false false false
    b4 := o.dx2
    b5 := o.dy2 }

/-- The canonical packet of a packet operation; none for FEED and the host operations, which have no
bit encoding (R110, R250). -/
def encodePacket : Instr → Option Packet
  | .v1Old o => some (encodeV1Old o)
  | .v1New o => some (encodeV1New o)
  | .v2F0 o => some (encodeV2None o)
  | .v2F1 o => some (encodeV2One false true false o)
  | .v2F2 o => some (encodeV2Two o)
  | .v2F3 o => some (encodeV2One true true false o)
  | .v2F4 o => some (encodeV2One true true true o)
  | .v3F0 o => some (encodeV3 false false false false o.left o.right 0 0 o.pressure o.width)
  | .v3F1 o => some (encodeV3 false true false false o.left o.right o.x o.y o.pressure o.width)
  | .v3F3 o => some (encodeV3 true true false false o.left o.right o.x o.y o.pressure o.width)
  | .v3Head p => some p
  | .v3Tail o =>
    some (encodeV3 true false (o.h.getLsbD 1) (o.h.getLsbD 0) o.left o.right o.x o.y
      o.pressure o.width)
  | .focTouch o => some (encodeFocTouch o)
  | .focAbs o => some (encodeFocAbs o)
  | .focRel o => some (encodeFocRel o)
  | .focUnk k => some { Packet.zero with b0 := k.setWidth 8 }
  | .feed _ => none
  | .init _ => none
  | .disconnect => none
  | .setParitycheck _ => none
  | .setDebug _ => none

/-- The context that a packet operation is selected in: the variant, and the era where it matters
(R110, R111). -/
def contextOf : Instr → Option (HwVersion × Option Era)
  | .v1Old _ => some (.v1, some .old)
  | .v1New _ => some (.v1, some .new)
  | .v2F0 _ => some (.v2, none)
  | .v2F1 _ => some (.v2, none)
  | .v2F2 _ => some (.v2, none)
  | .v2F3 _ => some (.v2, none)
  | .v2F4 _ => some (.v2, none)
  | .v3F0 _ => some (.v3, none)
  | .v3F1 _ => some (.v3, none)
  | .v3F3 _ => some (.v3, none)
  | .v3Head _ => some (.v3, none)
  | .v3Tail _ => some (.v3, none)
  | .focTouch _ => some (.focal, none)
  | .focAbs _ => some (.focal, none)
  | .focRel _ => some (.focal, none)
  | .focUnk _ => some (.focal, none)
  | .feed _ => none
  | .init _ => none
  | .disconnect => none
  | .setParitycheck _ => none
  | .setDebug _ => none

/-- The bytes of a packet of this variant, in arrival order (R90). -/
def packetBytes (hw : HwVersion) (p : Packet) : List Byte :=
  [p.b0, p.b1, p.b2, p.b3, p.b4, p.b5].take (packetSize hw)

/-- The words of an instruction: the port events that make the block perform it. A packet operation
is its bytes in arrival order; FEED and a host operation are one event each. -/
def encode (i : Instr) : List Event :=
  match contextOf i, encodePacket i, i with
  | some (hw, _), some p, _ => (packetBytes hw p).map Event.byte
  | _, _, .feed b => [.byte b]
  | _, _, .init c => [.init c]
  | _, _, .disconnect => [.disconnect]
  | _, _, .setParitycheck v => [.setParitycheck v]
  | _, _, .setDebug v => [.setDebug v]
  | _, _, _ => []

/-! ### The opcode table and its words (R111) -/

/-- The mnemonic of an operation, as spec/opcode_table.json spells it. -/
def mnemonicOf : Instr → String
  | .v1Old _ => "V1_OLD"
  | .v1New _ => "V1_NEW"
  | .v2F0 _ => "V2_F0"
  | .v2F1 _ => "V2_F1"
  | .v2F2 _ => "V2_F2"
  | .v2F3 _ => "V2_F3"
  | .v2F4 _ => "V2_F4"
  | .v3F0 _ => "V3_F0"
  | .v3F1 _ => "V3_F1"
  | .v3F3 _ => "V3_F3"
  | .v3Head _ => "V3_HEAD"
  | .v3Tail _ => "V3_TAIL"
  | .focTouch _ => "FOC_TOUCH"
  | .focAbs _ => "FOC_ABS"
  | .focRel _ => "FOC_REL"
  | .focUnk _ => "FOC_UNK"
  | .feed _ => "FEED"
  | .init _ => "INIT"
  | .disconnect => "DISCONNECT"
  | .setParitycheck _ => "SET_PARITYCHECK"
  | .setDebug _ => "SET_DEBUG"

/-- A packet row of the opcode table: it is selected in its context by a packet word `P` with
`(P & mask) = pattern` (R111). -/
structure TableRow where
  mnemonic : String
  hw : HwVersion
  era : Option Era
  mask : Nat
  pattern : Nat
  deriving DecidableEq, Repr

/-- The rows of V1 and V2. -/
def tableRowsV1V2 : List TableRow :=
  [ ⟨"V1_OLD", .v1, some .old, 0x00000000, 0x00000000⟩,
    ⟨"V1_NEW", .v1, some .new, 0x00000000, 0x00000000⟩,
    ⟨"V2_F0", .v2, none, 0x0000000000C0, 0x000000000000⟩,
    ⟨"V2_F1", .v2, none, 0x0000000000C0, 0x000000000040⟩,
    ⟨"V2_F2", .v2, none, 0x0000000000C0, 0x000000000080⟩,
    ⟨"V2_F3", .v2, none, 0x0000800000C0, 0x0000000000C0⟩,
    ⟨"V2_F4", .v2, none, 0x0000800000C0, 0x0000800000C0⟩ ]

/-- The rows of V3. -/
def tableRowsV3 : List TableRow :=
  [ ⟨"V3_F0", .v3, none, 0x0000000000C0, 0x000000000000⟩,
    ⟨"V3_F1", .v3, none, 0x0000000000C0, 0x000000000040⟩,
    ⟨"V3_F3", .v3, none, 0x0000000000C0, 0x0000000000C0⟩,
    ⟨"V3_HEAD", .v3, none, 0x0000000000CC, 0x000000000084⟩,
    ⟨"V3_TAIL", .v3, none, 0x0000000000CC, 0x000000000080⟩,
    ⟨"V3_TAIL", .v3, none, 0x0000000000CC, 0x000000000088⟩,
    ⟨"V3_TAIL", .v3, none, 0x0000000000CC, 0x00000000008C⟩ ]

/-- The kind nibbles that are no known kind (R103). -/
def unknownKinds : List Nat := [0, 1, 2, 4, 5, 7, 8, 10, 11, 12, 13, 14, 15]

/-- The rows of FOCAL. -/
def tableRowsFocal : List TableRow :=
  [ ⟨"FOC_TOUCH", .focal, none, 0x00000000000F, 0x000000000003⟩,
    ⟨"FOC_ABS", .focal, none, 0x00000000000F, 0x000000000006⟩,
    ⟨"FOC_REL", .focal, none, 0x00000000000F, 0x000000000009⟩ ] ++
  unknownKinds.map fun k => ⟨"FOC_UNK", .focal, none, 0x00000000000F, k⟩

/-- The thirty packet rows of the opcode table, in its order. -/
def tableRows : List TableRow := tableRowsV1V2 ++ tableRowsV3 ++ tableRowsFocal

/-- The packet word `P` of a packet: byte `k` at bits `8k+7 : 8k` (R67(f)). -/
def packetWord (p : Packet) : Nat := (p.b5 ++ p.b4 ++ p.b3 ++ p.b2 ++ p.b1 ++ p.b0).toNat

/-- The packet with a given packet word. -/
def packetOfWord (w : Nat) : Packet :=
  { b0 := BitVec.ofNat 8 w
    b1 := BitVec.ofNat 8 (w / 2 ^ 8)
    b2 := BitVec.ofNat 8 (w / 2 ^ 16)
    b3 := BitVec.ofNat 8 (w / 2 ^ 24)
    b4 := BitVec.ofNat 8 (w / 2 ^ 32)
    b5 := BitVec.ofNat 8 (w / 2 ^ 40) }

/-- The row is selected by a packet word in its context (R111). -/
def TableRow.selects (r : TableRow) (w : Nat) : Bool := w &&& r.mask == r.pattern

/-- The row is given whole by `nbits` bits, and `w` is its pattern with every other bit zero. A V1
packet word has 32 bits, no more and no fewer (R111). -/
def TableRow.isPattern (r : TableRow) (nbits w : Nat) : Bool :=
  r.pattern == w && decide (r.mask < 2 ^ nbits) && (r.hw != .v1 || nbits == 32)

/-- The variant and era in which a bare table word is read: those of the first row that the word is
the pattern of, and V2 where it is the pattern of none. A word alone names no context, so this is the
model's choice (assumption log 11). -/
def tableContext (nbits w : Nat) : HwVersion × Era :=
  match tableRows.find? fun r => r.isPattern nbits w with
  | some r => (r.hw, r.era.getD .new)
  | none => (.v2, .new)

/-- The packet of a table word: the bits above `nbits` are zero. -/
def tablePacket (nbits w : Nat) : Packet := packetOfWord (w % 2 ^ nbits)

/-- The instruction the decoder reads from a table word, its bytes laid out in arrival order. A word
longer than the longest packet is refused. -/
def decodeTableWord (nbits w : Nat) : Option Instr :=
  if 48 < nbits then none
  else
    match tableContext nbits (w % 2 ^ nbits) with
    | (hw, era) =>
      match decodeBytes hw era (packetBytes hw (tablePacket nbits w)) with
      | .ok (i, []) => some i
      | .ok (_, _ :: _) => none
      | .error _ => none

end Sys2Proof
end

