-- ==== Sys2Proof/Machine/State.lean ====
section
/-! DEFINITION. The state of the block (R20 to R46), its output ports (R8, R230, R260), the reasons a
step can stop, and the state at power-on (R291). -/

namespace Sys2Proof.Machine

/-- The outcome codes (R260). -/
inductive OutcomeCode where
  | none
  | frame
  | v1ParityDrop
  | v1JumpyDiscard
  | v3HeadStored
  | v3BoundsReject
  | v3TailUnpaired
  | focUnknownKind
  | focAbsBadFinger
  | focRelBadFinger
  deriving DecidableEq, Repr

/-- One slot report of a frame; `x` and `y` are present exactly when it is active (R230). -/
structure SlotReport where
  index : Fin 5
  active : Bool
  x : Option Coord
  y : Option Coord
  deriving DecidableEq, Repr

/-- A frame as it stands on `frame_out`; a field that is `none` is not reported in it (R230). -/
structure Frame where
  fingerCount : Nat
  absX : Option Coord
  absY : Option Coord
  pressure : Option Byte
  width : Option Byte
  left : Bool
  right : Option Bool
  forward : Option Bool
  back : Option Bool
  slots : List SlotReport
  deriving DecidableEq, Repr

/-- What a step drives on the output ports: `frame_valid` is the presence of a frame (R8). -/
structure StepResult where
  pktReady : Bool
  frame : Option Frame
  outcome : OutcomeCode
  deriving DecidableEq, Repr

/-- The ports of a step that completes no packet (R130, R250 to R254). -/
def StepResult.idle : StepResult := ⟨false, .none, .none⟩

/-- One entry of the slot file (R36). -/
structure Slot where
  active : Bool
  valid : Bool
  x : Coord
  y : Coord
  deriving DecidableEq, Repr

/-- A slot entry at reset (R45). -/
def Slot.zero : Slot := ⟨false, false, 0, 0⟩

/-- Why the block stops. The spec gives no input that stops it (R115); both reasons below can only
arise in states that no run reaches. -/
inductive Fault where
  /-- FEED with an `acc_count` that is no legal index of `buf` in this session (R60: the access is
  defined only for legal indices). Raised by `execFeed`. Safe: no run from reset reaches it. -/
  | bufIndexIllegal
  /-- The dispatch of a completed packet was handed an operation that is no packet operation. Raised
  by `runPacket`; the decoder never gives one. Safe. -/
  | notAPacketOperation
  deriving DecidableEq, Repr

/-- Why an operation has no step. -/
inductive Refusal where
  /-- The instruction has no meaning in this model yet. Raised by `exec`'s arms only. Safe. -/
  | notModelled (mnemonic : String)
  /-- FEED, DISCONNECT, SET_PARITYCHECK or SET_DEBUG with no live session: the spec gives it no step
  (R255). Raised by those four meanings. Safe. -/
  | sessionNotLive
  /-- INIT on a live session: the spec gives it no step (R251, R255). Raised by `execInit`. Safe. -/
  | sessionLive
  deriving DecidableEq, Repr

/-- The state of the block. The fields down to `focalPressed` are the record of R20. The last three
are the model's: the block's one open parameter (R6, assumption log 5), the events the outside world
will perform (log 1), and the output ports of the last step (log 2). -/
structure State where
  sessionLive : Bool
  cfg : SessionConfig
  buf : Packet
  accCount : BitVec 3
  streak : BitVec 2
  pendValid : Bool
  pend : Packet
  slots : Vector Slot 5
  focalPressed : Bool
  focalYHiMask : Byte
  input : List Event
  out : StepResult
  deriving DecidableEq, Repr

/-- Control registers with every bit zero; code 0 of `hw_version` is V1 (R21). -/
def zeroConfig : SessionConfig :=
  { hwVersion := .v1
    firmwareVersion := 0
    xMax := 0
    yMax := 0
    yMax2ft := 0
    reportsPressure := false
    jumpyCursorWorkaround := false
    hasRocker := false
    paritycheck := false
    debug := false }

/-- Power-on: no session is live, and every other register is zero (R38, R291; assumption log 4). The
mask parameter has its default (R6), and nothing has come on the input ports yet. -/
def State.reset : State :=
  { sessionLive := false
    cfg := zeroConfig
    buf := Packet.zero
    accCount := 0
    streak := 0
    pendValid := false
    pend := Packet.zero
    slots := Vector.replicate 5 Slot.zero
    focalPressed := false
    focalYHiMask := 0x00
    input := []
    out := StepResult.idle }

end Sys2Proof.Machine
end

