-- ==== Sys2Proof/Machine/Ops.lean ====
section
/-! DEFINITION. The named operations over the state: one update per register, the five index spaces
(R60, R77), presenting a frame (R11 `emit`), and ending a packet by an outcome (R11 `raise`, R270),
which is all the exception entry this block has; there is nothing to return from (R271). -/

namespace Sys2Proof.Machine

/-! ### One update per register -/

/-- `session_live <- v`. -/
def State.withLive (s : State) (v : Bool) : State := { s with sessionLive := v }

/-- `cfg <- c`. -/
def State.withCfg (s : State) (c : SessionConfig) : State := { s with cfg := c }

/-- `buf <- p`. -/
def State.withBuf (s : State) (p : Packet) : State := { s with buf := p }

/-- `acc_count <- n`. -/
def State.withAcc (s : State) (n : BitVec 3) : State := { s with accCount := n }

/-- `streak <- k`. -/
def State.withStreak (s : State) (k : BitVec 2) : State := { s with streak := k }

/-- `pend <- p ; pend_valid <- true`. -/
def State.storePend (s : State) (p : Packet) : State := { s with pendValid := true, pend := p }

/-- `pend_valid <- false`; the bytes stay (R199). -/
def State.clearPend (s : State) : State := { s with pendValid := false }

/-- `slot <- v`. -/
def State.withSlots (s : State) (v : Vector Slot 5) : State := { s with slots := v }

/-- `focal_pressed <- v`. -/
def State.withPressed (s : State) (v : Bool) : State := { s with focalPressed := v }

/-- The events still to come. -/
def State.withInput (s : State) (es : List Event) : State := { s with input := es }

/-- Drive the output ports. -/
def State.withOut (s : State) (r : StepResult) : State := { s with out := r }

/-- The era of the session (R22). -/
def State.era (s : State) : Era := eraOf s.cfg.firmwareVersion

/-! ### The ends of a step -/

/-- The ports of a step that completes no packet: no strobe, no frame, outcome NONE. -/
def State.quiet (s : State) : State := s.withOut StepResult.idle

/-- `emit(frame) ; outcome <- oc`, in the step that completed a packet (R11, R230). -/
def emitFrame (f : Frame) (oc : OutcomeCode) (s : State) : State := s.withOut ⟨true, some f, oc⟩

/-- `raise oc`: the packet ends here without a frame. Nothing is saved, no mode changes and control
goes nowhere; what has been written so far stays (R11, R270). -/
def raiseOutcome (oc : OutcomeCode) (s : State) : State := s.withOut ⟨true, none, oc⟩

/-- The 4-bit number of an outcome (R260). -/
def OutcomeCode.code : OutcomeCode → BitVec 4
  | .none => 0
  | .frame => 1
  | .v1ParityDrop => 2
  | .v1JumpyDiscard => 3
  | .v3HeadStored => 4
  | .v3BoundsReject => 5
  | .v3TailUnpaired => 6
  | .focUnknownKind => 7
  | .focAbsBadFinger => 8
  | .focRelBadFinger => 9

/-- Whether a step that ends in this outcome presents a frame (R260, column "frame in this step"). -/
def OutcomeCode.hasFrame : OutcomeCode → Bool
  | .none => false
  | .frame => true
  | .v1ParityDrop => false
  | .v1JumpyDiscard => false
  | .v3HeadStored => false
  | .v3BoundsReject => false
  | .v3TailUnpaired => true
  | .focUnknownKind => true
  | .focAbsBadFinger => true
  | .focRelBadFinger => true

/-! ### Bytes of a packet by index -/

/-- Byte `k` of six; there is no byte 6 or above. -/
def packetGet (p : Packet) (k : Nat) : Option Byte :=
  match k with
  | 0 => some p.b0
  | 1 => some p.b1
  | 2 => some p.b2
  | 3 => some p.b3
  | 4 => some p.b4
  | 5 => some p.b5
  | _ => none

/-- Write byte `k` of six. -/
def packetSet (p : Packet) (k : Nat) (b : Byte) : Option Packet :=
  match k with
  | 0 => some { p with b0 := b }
  | 1 => some { p with b1 := b }
  | 2 => some { p with b2 := b }
  | 3 => some { p with b3 := b }
  | 4 => some { p with b4 := b }
  | 5 => some { p with b5 := b }
  | _ => none

/-- `buf[k] <- b`, defined only for a legal index of BUF: 0..3 under V1, 0..5 otherwise (R60). -/
def writeBuf (s : State) (k : Nat) (b : Byte) : Option State :=
  if k < packetSize s.cfg.hwVersion then (packetSet s.buf k b).map s.withBuf else none

/-! ### The slot file by index -/

/-- `slot[i]`. -/
def State.slot (s : State) (i : Fin 5) : Slot := s.slots[i]

/-- The slot file with entry `i` replaced. -/
def setSlot (v : Vector Slot 5) (i : Fin 5) (e : Slot) : Vector Slot 5 := v.set i e

/-! ### The parity ROM -/

/-- The recurrence of R140 with `fuel` lookups left; each lookup clears the lowest set bit. -/
def parityFrom : Nat → Byte → Bool
  | 0, _ => true
  | fuel + 1, i => if i = 0 then true else !parityFrom fuel (i &&& (i - 1))

/-- The parity ROM (R40): `table[0] = 1`, `table[i] = table[i & (i-1)] XOR 1` (R140). An index has
eight bits, so eight lookups reach entry 0. -/
def parity (i : Byte) : Bool := parityFrom 8 i

/-! ### The five index spaces (R60) -/

/-- The index spaces; nothing else is addressable. -/
inductive Space where
  | buf
  | pend
  | slot
  | parity
  | cfg
  deriving DecidableEq, Repr

/-- One unit of an index space: a byte, a slot entry, a ROM bit, or a control register as a number
(the encodings of R21; a flag is 0 or 1). -/
inductive StorageUnit where
  | byte (b : Byte)
  | entry (e : Slot)
  | bit (b : Bool)
  | reg (v : Nat)
  deriving DecidableEq, Repr

/-- `N_SLOTS` (R6). -/
def slotCount : HwVersion → Nat
  | .v1 => 2
  | .v2 => 2
  | .v3 => 2
  | .focal => 5

/-- `SLOT_FILE_LEN` (R6). -/
def slotFileLen : Nat := 5

/-- How many entries of SLOT an access may name: `N_SLOTS` under V2 and V3, which are cut to the two
they use, and the whole file under V1 and FOCAL (R60). -/
def slotSpaceSize : HwVersion → Nat
  | .v1 => slotFileLen
  | .v2 => slotCount .v2
  | .v3 => slotCount .v3
  | .focal => slotFileLen

/-- How many indices a space has in a session of this variant; the legal ones are those below (R60). -/
def spaceSize (hw : HwVersion) : Space → Nat
  | .buf => packetSize hw
  | .pend => 6
  | .slot => slotSpaceSize hw
  | .parity => 256
  | .cfg => 10

/-- The code of `cfg.hw_version` (R21). -/
def hwCode : HwVersion → Nat
  | .v1 => 0
  | .v2 => 1
  | .v3 => 2
  | .focal => 3

/-- The variant with a code; the register has two bits (R21). -/
def hwOfCode (n : Nat) : HwVersion :=
  match n % 4 with
  | 0 => .v1
  | 1 => .v2
  | 2 => .v3
  | _ => .focal

/-- Control register `k` as a number, by the CFG indices of R21 to R30. -/
def cfgGet (c : SessionConfig) (k : Nat) : Option Nat :=
  match k with
  | 0 => some (hwCode c.hwVersion)
  | 1 => some c.firmwareVersion.toNat
  | 2 => some c.xMax.toNat
  | 3 => some c.yMax.toNat
  | 4 => some c.yMax2ft.toNat
  | 5 => some c.reportsPressure.toNat
  | 6 => some c.jumpyCursorWorkaround.toNat
  | 7 => some c.hasRocker.toNat
  | 8 => some c.paritycheck.toNat
  | 9 => some (Bool.toNat c.debug)
  | _ => none

/-- Write control register `k` from a number, cut to the register's width. -/
def cfgSet (c : SessionConfig) (k v : Nat) : Option SessionConfig :=
  match k with
  | 0 => some { c with hwVersion := hwOfCode v }
  | 1 => some { c with firmwareVersion := BitVec.ofNat 24 v }
  | 2 => some { c with xMax := BitVec.ofNat 16 v }
  | 3 => some { c with yMax := BitVec.ofNat 16 v }
  | 4 => some { c with yMax2ft := BitVec.ofNat 16 v }
  | 5 => some { c with reportsPressure := v.testBit 0 }
  | 6 => some { c with jumpyCursorWorkaround := v.testBit 0 }
  | 7 => some { c with hasRocker := v.testBit 0 }
  | 8 => some { c with paritycheck := v.testBit 0 }
  | 9 => some { c with debug := v.testBit 0 }
  | _ => none

/-- One unit at an index of a space, whether or not the session's variant may use that index. -/
def unitAt (s : State) (sp : Space) (k : Nat) : Option StorageUnit :=
  match sp with
  | .buf => (packetGet s.buf k).map .byte
  | .pend => (packetGet s.pend k).map .byte
  | .slot => s.slots[k]?.map .entry
  | .parity => if k < 256 then some (.bit (parity (BitVec.ofNat 8 k))) else none
  | .cfg => (cfgGet s.cfg k).map .reg

/-- `MemRead(space, k, 1)`: defined for a legal index only (R60). -/
def readUnit (s : State) (sp : Space) (k : Nat) : Option StorageUnit :=
  if k < spaceSize s.cfg.hwVersion sp then unitAt s sp k else none

/-- `MemWrite(space, k, 1, v)`: defined for a legal index, a unit of the space's kind, and never for
the ROM (R60). -/
def writeUnit (s : State) (sp : Space) (k : Nat) (v : StorageUnit) : Option State :=
  if k < spaceSize s.cfg.hwVersion sp then
    match sp, v with
    | .buf, .byte b => writeBuf s k b
    | .pend, .byte b => (packetSet s.pend k b).map fun p => { s with pend := p }
    | .slot, .entry e => if h : k < 5 then some (s.withSlots (setSlot s.slots ⟨k, h⟩ e)) else none
    | .cfg, .reg n => (cfgSet s.cfg k n).map s.withCfg
    | _, _ => none
  else none

/-- `MemRead(space, addr, n)`: `n` consecutive units (R11, R60). -/
def memRead (s : State) (sp : Space) (addr : Nat) : Nat → Option (List StorageUnit)
  | 0 => some []
  | n + 1 =>
    match readUnit s sp addr, memRead s sp (addr + 1) n with
    | some u, some us => some (u :: us)
    | _, _ => none

/-- `MemWrite(space, addr, n, v)`: the units of the list, at consecutive indices (R11, R60). -/
def memWrite (s : State) (sp : Space) (addr : Nat) : List StorageUnit → Option State
  | [] => some s
  | v :: vs =>
    match writeUnit s sp addr v with
    | some s' => memWrite s' sp (addr + 1) vs
    | none => none

end Sys2Proof.Machine
end

