-- ==== Sys2Proof/Machine/Operands.lean ====
section
/-! DEFINITION. Operand forms: from the fields of a packet to positions, counts, deltas and indices
(R12, R93, R97, R99, R104). -/

namespace Sys2Proof.Machine

/-- A decoded position. -/
structure Pos where
  x : Coord
  y : Coord
  deriving DecidableEq, Repr

/-- The Y inversion, modulo 2^16 (R12(b)): `bound -_16 raw`. -/
def invertY (bound : Coord) {n : Nat} (raw : BitVec n) : Coord := bound - raw.setWidth 16

/-- The finger count of era OLD: the integer sum of the touch bit and the count bits (R151, D7). -/
def v1OldFingers (f : Bool) (m : BitVec 2) : Nat := f.toNat + m.toNat

/-- The position of a V1 packet (R153). -/
def v1Pos (yMax : Coord) (x y : BitVec 10) : Pos := ⟨x.setWidth 16, invertY yMax y⟩

/-- What a V2 packet decodes to before its frame is built (R171). -/
structure V2Decoded where
  pos1 : Option Pos
  pos2 : Option Pos
  legacy : Option Pos
  pressure : Byte
  width : Byte
  deriving DecidableEq, Repr

/-- `V2_NONE()` (R172). -/
def v2None : V2Decoded := ⟨none, none, none, 0, 0⟩

/-- The one position of a V2 packet (R173). -/
def v2Pos (yMax : Coord) (x : BitVec 11) (y : BitVec 10) : Pos := ⟨x.setWidth 16, invertY yMax y⟩

/-- `V2_ONE(b)` (R173): also the decoding of counts 3 and 4 (R174). -/
def v2One (yMax : Coord) (o : V2OneForm) : V2Decoded :=
  ⟨some (v2Pos yMax o.x o.y), none, some (v2Pos yMax o.x o.y), o.pressure, o.width.setWidth 8⟩

/-- A position of a V2 two-finger packet (R175). -/
def v2Pos9 (yMax2ft : Coord) (x y : BitVec 9) : Pos := ⟨x.setWidth 16, invertY yMax2ft y⟩

/-- `V2_2FT_PRESSURE` (R6). -/
def v2TwoPressure : Byte := 127

/-- `V2_2FT_WIDTH` (R6). -/
def v2TwoWidth : Byte := 7

/-- The legacy position of a two-finger packet: shifted left by 2 within 16 bits (R12(c), R175). -/
def legacyShift (p : Pos) : Pos := ⟨p.x <<< 2, p.y <<< 2⟩

/-- `V2_TWO(b)` (R175). -/
def v2Two (yMax2ft : Coord) (o : V2TwoForm) : V2Decoded :=
  ⟨some (v2Pos9 yMax2ft o.ax o.ay), some (v2Pos9 yMax2ft o.bx o.bY),
    some (legacyShift (v2Pos9 yMax2ft o.ax o.ay)), v2TwoPressure, v2TwoWidth⟩

/-- A V3 position with its Y inverted (R193, R194). -/
def v3Pos (yMax : Coord) (x y : BitVec 12) : Pos := ⟨x.setWidth 16, invertY yMax y⟩

/-- The V3 bounds check (R196): equality passes. -/
def beyondBounds (c : SessionConfig) (p : Pos) : Bool :=
  decide (c.xMax.toNat < p.x.toNat) || decide (c.yMax.toNat < p.y.toNat)

/-- The slot that a finger index 1..5 names; other values name none (R77, R214, R217). -/
def slotOfFinger (k : Nat) : Option (Fin 5) :=
  if h : 1 ≤ k ∧ k ≤ 5 then some ⟨k - 1, by omega⟩ else none

/-- The Y of a FOCAL Abs packet: byte 3 through the mask, then byte 4 (R104, R214). -/
def focAbsY (mask yHi yLo : Byte) : Coord := (yHi &&& mask) ++ yLo

/-- A slot moved by two signed byte deltas, modulo 2^16, whatever its flags (R12(d), R217, R218). -/
def moveSlot (dx dy : Byte) (e : Slot) : Slot :=
  { e with x := e.x + dx.signExtend 16, y := e.y + dy.signExtend 16 }

end Sys2Proof.Machine
end

