-- ==== Sys2Proof/Machine/Flags.lean ====
section
/-! DEFINITION. Every flag and small status register that an operation computes (R41): the parity
predicate, the V1 streak, the activity of semi-MT slots, and the flags of FOCAL slots. -/

namespace Sys2Proof.Machine

/-- `parity_ok(b)` (R143). -/
def parityOk (era : Era) (p : Packet) : Bool :=
  parity p.b1 == Layout.v1P1 era p && parity p.b2 == Layout.v1P2 era p &&
    parity p.b3 == Layout.v1P3 p

/-- `STREAK_MAX` (R6). -/
def streakMax : Nat := 2

/-- The jumpy-cursor workaround (R152): whether the packet is discarded. -/
def jumpyDiscards (workaround : Bool) (fingers : Nat) (streak : BitVec 2) : Bool :=
  workaround && fingers == 1 && decide (streak.toNat < streakMax)

/-- The streak after a V1 packet (R34, R152). -/
def nextStreak (workaround : Bool) (fingers : Nat) (streak : BitVec 2) : BitVec 2 :=
  if workaround then
    if fingers = 1 then
      if streak.toNat < streakMax then streak + 1 else streak
    else 0
  else streak

/-- A semi-MT slot entry after a frame (R233): its `x` and `y` change only when it is active, and
`valid` is not used. -/
def semiMtSlot (active : Bool) (pos : Option Pos) (e : Slot) : Slot :=
  match active, pos with
  | true, some p => { e with active := true, x := p.x, y := p.y }
  | true, none => { e with active := true }
  | false, _ => { e with active := false }

/-- A FOCAL slot entry after a Touch packet with this bit in its bitmap (R212, R213): `valid` survives
only where the slot was active and stays active. -/
def touchSlot (bit : Bool) (e : Slot) : Slot :=
  { e with active := bit, valid := e.valid && e.active && bit }

/-- A FOCAL slot contributes a position (R236). -/
def Slot.reported (e : Slot) : Bool := e.active && e.valid

/-- `FOC_ABS_SENTINEL` (R6, R216). -/
def focAbsSentinel : Byte := 0xFF

/-- A FOCAL slot entry after an Abs packet for it (R214, R216). -/
def absSlot (mask : Byte) (o : FocAbsForm) (e : Slot) : Slot :=
  if o.z = focAbsSentinel then { e with valid := false }
  else { e with valid := true, x := o.x.setWidth 16, y := focAbsY mask o.yHi o.yLo }

/-- An index field of a Rel packet that names no slot and is not "no finger" (R217). -/
def relBadFinger (idx : BitVec 3) : Bool := decide (6 ≤ idx.toNat)

end Sys2Proof.Machine
end

