-- ==== Sys2Proof/Machine/SlotTracker.lean ====
section
/-! DEFINITION. The slot tracker (R233, R236): semi-MT emission for V2 and V3, the resync emission of
FOCAL, and the calls a sink may be given instead of the record (R238). -/

namespace Sys2Proof.Machine

/-! ### Semi-MT emission -/

/-- The slot file after `SEMI_MT(fingers, pos1, pos2)` (R233). -/
def semiMtSlots (fingers : Nat) (pos1 pos2 : Option Pos) (v : Vector Slot 5) : Vector Slot 5 :=
  setSlot (setSlot v 0 (semiMtSlot (fingers != 0) pos1 v[0])) 1
    (semiMtSlot (fingers == 2) pos2 v[1])

/-- The report of a semi-MT slot (R233): a position exactly when active. -/
def semiMtReport (i : Fin 5) (active : Bool) (pos : Option Pos) : SlotReport :=
  if active then ⟨i, true, pos.map Pos.x, pos.map Pos.y⟩ else ⟨i, false, none, none⟩

/-- The two reports that `SEMI_MT(fingers, pos1, pos2)` returns (R233). -/
def semiMtReports (fingers : Nat) (pos1 pos2 : Option Pos) : List SlotReport :=
  [semiMtReport 0 (fingers != 0) pos1, semiMtReport 1 (fingers == 2) pos2]

/-- The frame of V2 and V3 (R171, R191): pressure and width are present exactly when the session
reports them (R178, R198), forward and back never. -/
def semiMtFrame (reportsPressure : Bool) (fingers : Nat) (pos1 pos2 legacy : Option Pos)
    (pressure width : Byte) (left right : Bool) : Frame :=
  { fingerCount := fingers
    absX := legacy.map Pos.x
    absY := legacy.map Pos.y
    pressure := if reportsPressure then some pressure else none
    width := if reportsPressure then some width else none
    left := left
    right := some right
    forward := none
    back := none
    slots := semiMtReports fingers pos1 pos2 }

/-! ### FOCAL emission -/

/-- The report of slot `i` (R236). -/
def focReport (i : Fin 5) (e : Slot) : SlotReport :=
  if e.reported then ⟨i, true, some e.x, some e.y⟩ else ⟨i, false, none, none⟩

/-- The reports of all five slots, in index order (R236). -/
def focReports (v : Vector Slot 5) : List SlotReport :=
  [focReport 0 v[0], focReport 1 v[1], focReport 2 v[2], focReport 3 v[3], focReport 4 v[4]]

/-- `FOC_EMIT()` (R236): a pure function of the slot file and the click state (R237). -/
def focFrame (v : Vector Slot 5) (pressed : Bool) : Frame :=
  { fingerCount := (focReports v).countP SlotReport.active
    absX := none
    absY := none
    pressure := none
    width := none
    left := pressed
    right := none
    forward := none
    back := none
    slots := focReports v }

/-- The end of every FOCAL packet: the whole slot table, from the state after the update (R211). -/
def focResync (oc : OutcomeCode) (s : State) : State :=
  emitFrame (focFrame s.slots s.focalPressed) oc s

/-! ### The call view of a frame -/

/-- The axes of `report_absolute` (R238). -/
inductive Axis where
  | x
  | y
  | pressure
  | toolWidth
  deriving DecidableEq, Repr

/-- The buttons of `report_button` (R238). -/
inductive Button where
  | left
  | right
  | forward
  | back
  deriving DecidableEq, Repr

/-- A call to the sink (R238). The position of an inactive slot is meaningless, and is absent here. -/
inductive SinkCall where
  | reportAbsolute (axis : Axis) (value : Coord)
  | reportSlot (index : Fin 5) (active : Bool) (x y : Option Coord)
  | reportButton (button : Button) (pressed : Bool)
  | sync
  deriving DecidableEq, Repr

/-- `report_absolute`, made only when the field is present. -/
def absoluteCall (axis : Axis) : Option Coord → List SinkCall
  | some v => [.reportAbsolute axis v]
  | none => []

/-- `report_button`, made only when the field is present. -/
def buttonCall (button : Button) : Option Bool → List SinkCall
  | some v => [.reportButton button v]
  | none => []

/-- The calls that describe one frame, in the order of R238. -/
def frameCalls (f : Frame) : List SinkCall :=
  absoluteCall .x f.absX ++ absoluteCall .y f.absY ++
    f.slots.map (fun r => .reportSlot r.index r.active r.x r.y) ++
    buttonCall .left (some f.left) ++ buttonCall .right f.right ++
    buttonCall .forward f.forward ++ buttonCall .back f.back ++
    absoluteCall .pressure (f.pressure.map (BitVec.setWidth 16)) ++
    absoluteCall .toolWidth (f.width.map (BitVec.setWidth 16)) ++ [.sync]

/-- The calls of a step: none at all where it presents no frame (R238). -/
def stepCalls (r : StepResult) : List SinkCall :=
  match r.frame with
  | some f => frameCalls f
  | none => []

end Sys2Proof.Machine
end

