-- ==== Sys2Proof/Machine/Focal.lean ====
section
/-! DEFINITION. The FOCAL packet operations (R211 to R221). Each ends in the resync frame. -/

namespace Sys2Proof.Machine

/-- The slot file after a Touch packet: bit `i` of the bitmap goes to slot `i` (R77, R212). -/
def touchSlots (bitmap : BitVec 5) (v : Vector Slot 5) : Vector Slot 5 :=
  Vector.ofFn fun i => touchSlot (bitmap.getLsbD i) v[i]

/-- `FOC_TOUCH` (R212, R213). -/
def execFocTouch (o : FocTouchForm) (s : State) : Host.Outcome State Fault Refusal :=
  .next (focResync .frame ((s.withPressed o.pressed).withSlots (touchSlots o.bitmap s.slots)))

/-- `FOC_ABS` (R214 to R216): a finger index out of range changes nothing. -/
def execFocAbs (o : FocAbsForm) (s : State) : Host.Outcome State Fault Refusal :=
  match slotOfFinger o.fidx.toNat with
  | none => .next (focResync .focAbsBadFinger s)
  | some i =>
    .next (focResync .frame ((s.withPressed o.pressed).withSlots
      (setSlot s.slots i (absSlot s.focalYHiMask o s.slots[i]))))

/-- One finger of a Rel packet (R217): an index that names no slot moves nothing. -/
def relSlots (idx : BitVec 3) (dx dy : Byte) (v : Vector Slot 5) : Vector Slot 5 :=
  match slotOfFinger idx.toNat with
  | none => v
  | some i => setSlot v i (moveSlot dx dy v[i])

/-- The outcome of a Rel packet (R217, R272). -/
def relOutcome (o : FocRelForm) : OutcomeCode :=
  if relBadFinger o.idx1 || relBadFinger o.idx2 then .focRelBadFinger else .frame

/-- `FOC_REL` (R217): the second finger is applied to what the first left. -/
def execFocRel (o : FocRelForm) (s : State) : Host.Outcome State Fault Refusal :=
  .next (focResync (relOutcome o) ((s.withPressed o.pressed).withSlots
    (relSlots o.idx2 o.dx2 o.dy2 (relSlots o.idx1 o.dx1 o.dy1 s.slots))))

/-- `FOC_UNK` (R219): no state change, whatever the kind, and the resync frame. -/
def execFocUnk (_kind : BitVec 4) (s : State) : Host.Outcome State Fault Refusal :=
  .next (focResync .focUnknownKind s)

end Sys2Proof.Machine
end

