-- ==== Sys2Proof/Machine/V1.lean ====
section
/-! DEFINITION. The V1 packet operations (R150 to R158). The parity check stands before them, in the
dispatch (R133). -/

namespace Sys2Proof.Machine

/-- The frame of a V1 packet (R150): the one position only when a finger touches (R154), the rocker
buttons only where the era and the capability give them (R156), no slot reports (R157). -/
def v1Frame (fingers : Nat) (pos : Pos) (left right : Bool) (forward back : Option Bool) : Frame :=
  { fingerCount := fingers
    absX := if fingers = 0 then none else some pos.x
    absY := if fingers = 0 then none else some pos.y
    pressure := none
    width := none
    left := left
    right := some right
    forward := forward
    back := back
    slots := [] }

/-- `V1_PACKET(b)` (R150): the jumpy-cursor test, then the frame. -/
def v1Packet (fingers : Nat) (x y : BitVec 10) (left right : Bool) (forward back : Option Bool)
    (s : State) : State :=
  let s' := s.withStreak (nextStreak s.cfg.jumpyCursorWorkaround fingers s.streak)
  if jumpyDiscards s.cfg.jumpyCursorWorkaround fingers s.streak then raiseOutcome .v1JumpyDiscard s'
  else emitFrame (v1Frame fingers (v1Pos s.cfg.yMax x y) left right forward back) .frame s'

/-- A rocker button: reported only with the capability bit (R156). -/
def rocker (s : State) (v : Bool) : Option Bool := if s.cfg.hasRocker then some v else none

/-- `V1_OLD` (R150, R151, R156). -/
def execV1Old (o : V1OldForm) (s : State) : Host.Outcome State Fault Refusal :=
  .next (v1Packet (v1OldFingers o.f o.m) o.x o.y o.left o.right
    (rocker s o.forward) (rocker s o.back) s)

/-- `V1_NEW` (R150, R151). -/
def execV1New (o : V1NewForm) (s : State) : Host.Outcome State Fault Refusal :=
  .next (v1Packet o.fingers.toNat o.x o.y o.left o.right none none s)

end Sys2Proof.Machine
end

