-- ==== Sys2Proof/Machine/V2.lean ====
section
/-! DEFINITION. The V2 packet operations (R171 to R179). -/

namespace Sys2Proof.Machine

/-- `V2_PACKET(b)` from the decoding of its bytes (R171): the semi-MT emission and one frame. -/
def v2Packet (fingers : Nat) (d : V2Decoded) (left right : Bool) (s : State) : State :=
  emitFrame
    (semiMtFrame s.cfg.reportsPressure fingers d.pos1 d.pos2 d.legacy d.pressure d.width left right)
    .frame (s.withSlots (semiMtSlots fingers d.pos1 d.pos2 s.slots))

/-- `V2_F0` (R172). -/
def execV2F0 (o : V2NoneForm) (s : State) : Host.Outcome State Fault Refusal :=
  .next (v2Packet 0 v2None o.left o.right s)

/-- `V2_F1` (R173). -/
def execV2F1 (o : V2OneForm) (s : State) : Host.Outcome State Fault Refusal :=
  .next (v2Packet 1 (v2One s.cfg.yMax o) o.left o.right s)

/-- `V2_F2` (R175). -/
def execV2F2 (o : V2TwoForm) (s : State) : Host.Outcome State Fault Refusal :=
  .next (v2Packet 2 (v2Two s.cfg.yMax2ft o) o.left o.right s)

/-- `V2_F3` (R174): position, pressure and width as for one finger. -/
def execV2F3 (o : V2OneForm) (s : State) : Host.Outcome State Fault Refusal :=
  .next (v2Packet 3 (v2One s.cfg.yMax o) o.left o.right s)

/-- `V2_F4` (R174): the count promoted to four by the overflow bit. -/
def execV2F4 (o : V2OneForm) (s : State) : Host.Outcome State Fault Refusal :=
  .next (v2Packet 4 (v2One s.cfg.yMax o) o.left o.right s)

end Sys2Proof.Machine
end

