-- ==== Sys2Proof/Machine/V3.lean ====
section
/-! DEFINITION. The V3 packet operations and the two-packet reassembly buffer (R136, R191 to R200). -/

namespace Sys2Proof.Machine

/-- The end of every V3 packet that is no HEAD (R191): the pending buffer is cleared (R199), every
position is checked (R196), and either the packet is rejected or its frame is presented. -/
def v3Packet (fingers : Nat) (positions : List Pos) (pressure : Byte) (width : BitVec 4)
    (left right : Bool) (oc : OutcomeCode) (s : State) : State :=
  let s' := s.clearPend
  if positions.any (beyondBounds s.cfg) then raiseOutcome .v3BoundsReject s'
  else
    emitFrame
      (semiMtFrame s.cfg.reportsPressure fingers positions[0]? positions[1]? positions[0]?
        pressure (width.setWidth 8) left right)
      oc (s'.withSlots (semiMtSlots fingers positions[0]? positions[1]? s.slots))

/-- `V3_F0` (R195). -/
def execV3F0 (o : V3NoneForm) (s : State) : Host.Outcome State Fault Refusal :=
  .next (v3Packet 0 [] o.pressure o.width o.left o.right .frame s)

/-- `V3_F1` (R194). -/
def execV3F1 (o : V3OneForm) (s : State) : Host.Outcome State Fault Refusal :=
  .next (v3Packet 1 [v3Pos s.cfg.yMax o.x o.y] o.pressure o.width o.left o.right .frame s)

/-- `V3_F3` (R194): decoded as for one finger. -/
def execV3F3 (o : V3OneForm) (s : State) : Host.Outcome State Fault Refusal :=
  .next (v3Packet 3 [v3Pos s.cfg.yMax o.x o.y] o.pressure o.width o.left o.right .frame s)

/-- `V3_HEAD` (R192): the packet is stored, over any packet already pending, and there is no frame. -/
def execV3Head (p : Packet) (s : State) : Host.Outcome State Fault Refusal :=
  .next (raiseOutcome .v3HeadStored (s.storePend p))

/-- `V3_TAIL` with a packet pending (R193(a)): finger 1, pressure and width from the pending packet,
finger 2 and the buttons from this one. -/
def v3Paired (o : V3TailForm) (s : State) : State :=
  v3Packet 2
    [v3Pos s.cfg.yMax (Layout.v3X s.pend) (Layout.v3Y s.pend), v3Pos s.cfg.yMax o.x o.y]
    (Layout.pressure s.pend) (Layout.width s.pend) o.left o.right .frame s

/-- `V3_TAIL` with nothing pending (R193(b)): one finger, from its own bytes. -/
def v3Unpaired (o : V3TailForm) (s : State) : State :=
  v3Packet 1 [v3Pos s.cfg.yMax o.x o.y] o.pressure o.width o.left o.right .v3TailUnpaired s

/-- `V3_TAIL` (R193). -/
def execV3Tail (o : V3TailForm) (s : State) : Host.Outcome State Fault Refusal :=
  .next (if s.pendValid then v3Paired o s else v3Unpaired o s)

end Sys2Proof.Machine
end

