-- ==== Sys2Proof/Machine/Feed.lean ====
section
/-! DEFINITION. FEED: the packet accumulator and the dispatch of a completed packet (R130 to R136). -/

namespace Sys2Proof.Machine

/-- Perform a packet operation. FEED and the host operations are none, and the decoder of a packet
never gives one. -/
def runPacket (i : Instr) (s : State) : Host.Outcome State Fault Refusal :=
  match i with
  | .v1Old o => execV1Old o s
  | .v1New o => execV1New o s
  | .v2F0 o => execV2F0 o s
  | .v2F1 o => execV2F1 o s
  | .v2F2 o => execV2F2 o s
  | .v2F3 o => execV2F3 o s
  | .v2F4 o => execV2F4 o s
  | .v3F0 o => execV3F0 o s
  | .v3F1 o => execV3F1 o s
  | .v3F3 o => execV3F3 o s
  | .v3Head p => execV3Head p s
  | .v3Tail o => execV3Tail o s
  | .focTouch o => execFocTouch o s
  | .focAbs o => execFocAbs o s
  | .focRel o => execFocRel o s
  | .focUnk k => execFocUnk k s
  | .feed _ => .fault .notAPacketOperation
  | .init _ => .fault .notAPacketOperation
  | .disconnect => .fault .notAPacketOperation
  | .setParitycheck _ => .fault .notAPacketOperation
  | .setDebug _ => .fault .notAPacketOperation

/-- The packet in `buf` fails the V1 validator, which runs under V1 only, and only while
`cfg.paritycheck` is set (R133, R142). -/
def parityDrops (s : State) : Bool :=
  s.cfg.hwVersion == .v1 && s.cfg.paritycheck && !parityOk s.era s.buf

/-- `DISPATCH(buf[0..S-1])` (R133): a V1 packet of wrong parity is dropped with no state change
(R144); any other packet goes to the operation it selects. -/
def dispatch (s : State) : Host.Outcome State Fault Refusal :=
  if parityDrops s then .next (raiseOutcome .v1ParityDrop s)
  else runPacket (decodePacket s.cfg.hwVersion s.era s.buf) s

/-- This FEED completes a packet (R130, R132). -/
def completes (s : State) : Bool := s.accCount.toNat + 1 == packetSize s.cfg.hwVersion

/-- `FEED(byte_in)` (R130): store the byte; at the last byte of a packet return `acc_count` to 0 and
dispatch in the same step, otherwise count it. -/
def execFeed (b : Byte) (s : State) : Host.Outcome State Fault Refusal :=
  if s.sessionLive then
    match writeBuf s s.accCount.toNat b with
    | none => .fault .bufIndexIllegal
    | some s' =>
      if completes s then dispatch (s'.withAcc 0)
      else .next (s'.withAcc (s.accCount + 1)).quiet
  else .refused .sessionNotLive

end Sys2Proof.Machine
end

