-- ==== Sys2Proof/Machine/HostOps.lean ====
section
/-! DEFINITION. The host operations (R250 to R255). -/

namespace Sys2Proof.Machine

/-- `INIT(config)` (R250, R290): the block's one reset. The parameter and the pending events are not
its business. -/
def execInit (c : SessionConfig) (s : State) : Host.Outcome State Fault Refusal :=
  if s.sessionLive then .refused .sessionLive
  else
    .next {
      sessionLive := true
      cfg := c
      buf := Packet.zero
      accCount := 0
      streak := 0
      pendValid := false
      pend := Packet.zero
      slots := Vector.replicate 5 Slot.zero
      focalPressed := false
      focalYHiMask := s.focalYHiMask
      input := s.input
      out := StepResult.idle }

/-- `DISCONNECT()` (R252): no frame, no flush; the registers keep their bits (R31). -/
def execDisconnect (s : State) : Host.Outcome State Fault Refusal :=
  if s.sessionLive then .next (s.withLive false).quiet else .refused .sessionNotLive

/-- `SET_PARITYCHECK(v)` (R253). -/
def execSetParitycheck (v : Bool) (s : State) : Host.Outcome State Fault Refusal :=
  if s.sessionLive then .next (s.withCfg { s.cfg with paritycheck := v }).quiet
  else .refused .sessionNotLive

/-- `SET_DEBUG(v)` (R254). -/
def execSetDebug (v : Bool) (s : State) : Host.Outcome State Fault Refusal :=
  if s.sessionLive then .next (s.withCfg { s.cfg with debug := v }).quiet
  else .refused .sessionNotLive

end Sys2Proof.Machine
end

