-- ==== Sys2Proof/Machine/Dispatch.lean ====
section
/-! DEFINITION. One arm per operation (R9, R110). -/

namespace Sys2Proof.Machine

def exec (i : Instr) (s : State) : Host.Outcome State Fault Refusal :=
  match i with
  | .v1Old o => Sys2Proof.Machine.execV1Old o s
  | .v1New o => Sys2Proof.Machine.execV1New o s
  | .v2F0 o => Sys2Proof.Machine.execV2F0 o s
  | .v2F1 o => Sys2Proof.Machine.execV2F1 o s
  | .v2F2 o => Sys2Proof.Machine.execV2F2 o s
  | .v2F3 o => Sys2Proof.Machine.execV2F3 o s
  | .v2F4 o => Sys2Proof.Machine.execV2F4 o s
  | .v3F0 o => Sys2Proof.Machine.execV3F0 o s
  | .v3F1 o => Sys2Proof.Machine.execV3F1 o s
  | .v3F3 o => Sys2Proof.Machine.execV3F3 o s
  | .v3Head p => Sys2Proof.Machine.execV3Head p s
  | .v3Tail o => Sys2Proof.Machine.execV3Tail o s
  | .focTouch o => Sys2Proof.Machine.execFocTouch o s
  | .focAbs o => Sys2Proof.Machine.execFocAbs o s
  | .focRel o => Sys2Proof.Machine.execFocRel o s
  | .focUnk k => Sys2Proof.Machine.execFocUnk k s
  | .feed b => Sys2Proof.Machine.execFeed b s
  | .init c => Sys2Proof.Machine.execInit c s
  | .disconnect => Sys2Proof.Machine.execDisconnect s
  | .setParitycheck v => Sys2Proof.Machine.execSetParitycheck v s
  | .setDebug v => Sys2Proof.Machine.execSetDebug v s

end Sys2Proof.Machine
end

