-- ==== Sys2Proof/Machine/Fetch.lean ====
section
/-! DEFINITION. How the operation of a table word is placed so that the next step performs it. -/

namespace Sys2Proof.Machine

/-- A firmware version of an era: the smallest (R22). -/
def firmwareOfEra : Era → Firmware
  | .old => 0
  | .new => 0x020000

/-- The session a table word is performed in: its variant and, under V1, its era, with the validator
off so that the packet reaches its operation (R142). -/
def tableSession (c : SessionConfig) (hw : HwVersion) (era : Era) : SessionConfig :=
  match hw with
  | .v1 => { c with hwVersion := .v1, firmwareVersion := firmwareOfEra era, paritycheck := false }
  | .v2 => { c with hwVersion := .v2 }
  | .v3 => { c with hwVersion := .v3 }
  | .focal => { c with hwVersion := .focal }

/-- The last byte of a packet of this variant. -/
def lastByte (hw : HwVersion) (p : Packet) : Byte :=
  match hw with
  | .v1 => p.b3
  | .v2 => p.b5
  | .v3 => p.b5
  | .focal => p.b5

/-- The state in which the next event completes the packet of a table word. -/
def placeTableWord (s : State) (nbits w : Nat) : State :=
  match tableContext nbits (w % 2 ^ nbits) with
  | (hw, era) =>
    { s with
      sessionLive := true
      cfg := tableSession s.cfg hw era
      buf := tablePacket nbits w
      accCount := BitVec.ofNat 3 (packetSize hw - 1)
      input := .byte (lastByte hw (tablePacket nbits w)) :: s.input }

end Sys2Proof.Machine
end

