-- ==== Sys2Proof/Machine/Step.lean ====
section
/-! DEFINITION. One step of the block: the next event on its input ports, performed to completion
(R8, R72). -/

namespace Sys2Proof.Machine

/-- The step: take the oldest pending event and perform its operation. With no event pending nothing
is performed, and the ports are idle (assumption log 3). -/
def step (s : State) : Host.Outcome State Fault Refusal :=
  match s.input with
  | [] => .next s.quiet
  | e :: es => exec (decodeEvent e) (s.withInput es)

/-- `s` about to perform the operation of a table word: a live session of the context the word is
read in, all bytes of the packet but the last already accumulated, and the last one next on the
input, so that the next step completes the packet and runs exactly it (assumption log 11). -/
def State.withFetchWord (s : State) (nbits w : Nat) : State := placeTableWord s nbits w

end Sys2Proof.Machine
end

