-- ==== Sys2Proof/Safety.lean ====
section
/-! DEFINITION. What counts as a legal state, a legal event and a consistent output, in the terms the
statements use (R44, R196, R230, R231, R255, R260). -/

namespace Sys2Proof.Machine

/-! ### Legal states and legal events -/

/-- The two invariants of R44: `acc_count < S` and `streak <= 2`. -/
abbrev State.Inv (s : State) : Prop :=
  s.accCount.toNat < packetSize s.cfg.hwVersion ∧ s.streak.toNat ≤ streakMax

/-- The event is one the host may issue in this state (R251, R255). -/
def eventLegal (s : State) : Event → Bool
  | .byte _ => s.sessionLive
  | .init _ => !s.sessionLive
  | .disconnect => s.sessionLive
  | .setParitycheck _ => s.sessionLive
  | .setDebug _ => s.sessionLive

/-- The next event, if there is one, is legal. -/
def nextEventLegal (s : State) : Bool :=
  match s.input with
  | [] => true
  | e :: _ => eventLegal s e

/-- A step of the block is safe: it answers a next state. -/
def steps (s : State) : Bool :=
  match step s with
  | .next _ => true
  | .fault _ => false
  | .refused _ => false

/-- Apply a function to a next state, and leave a stop as it is. -/
def mapNext (f : State → State) :
    Host.Outcome State Fault Refusal → Host.Outcome State Fault Refusal
  | .next t => .next (f t)
  | .fault r => .fault r
  | .refused r => .refused r

/-- The finger count of a V1 operation: the sum of its touch and count fields in era OLD, its count
field in era NEW (R151, D7). Every other operation has none. -/
def v1Count : Instr → Option Nat
  | .v1Old o => some (o.f.toNat + o.m.toNat)
  | .v1New o => some o.fingers.toNat
  | .v2F0 _ => none
  | .v2F1 _ => none
  | .v2F2 _ => none
  | .v2F3 _ => none
  | .v2F4 _ => none
  | .v3F0 _ => none
  | .v3F1 _ => none
  | .v3F3 _ => none
  | .v3Head _ => none
  | .v3Tail _ => none
  | .focTouch _ => none
  | .focAbs _ => none
  | .focRel _ => none
  | .focUnk _ => none
  | .feed _ => none
  | .init _ => none
  | .disconnect => none
  | .setParitycheck _ => none
  | .setDebug _ => none

/-- The bytes of the packet being accumulated that are already in `buf` (R33). -/
def bufferedBytes (s : State) : List Byte :=
  (packetBytes s.cfg.hwVersion s.buf).take s.accCount.toNat

/-- The slot entries that a semi-MT variant never uses are unchanged (R36). -/
abbrev upperSlotsKept (s t : State) : Prop :=
  t.slots[2] = s.slots[2] ∧ t.slots[3] = s.slots[3] ∧ t.slots[4] = s.slots[4]

/-! ### Consistent outputs -/

/-- The strobes agree with the outcome code (R260): every code but NONE comes with `pkt_ready`, and a
frame is presented exactly for the codes the table says. -/
abbrev StepResult.consistent (r : StepResult) : Prop :=
  r.pktReady = (r.outcome != .none) ∧ r.frame.isSome = r.outcome.hasFrame

/-- A slot report has a position exactly when it is active (R230). -/
abbrev SlotReport.consistent (r : SlotReport) : Prop :=
  r.x.isSome = r.active ∧ r.y.isSome = r.active

/-- The slot report that a sink call carries, if it is `report_slot` (R238). -/
def SinkCall.slotReport : SinkCall → Option SlotReport
  | .reportAbsolute _ _ => none
  | .reportSlot i a x y => some ⟨i, a, x, y⟩
  | .reportButton _ _ => none
  | .sync => none

/-- The largest finger count a frame of the session can have (R231). -/
def maxFingers (c : SessionConfig) : Nat :=
  match c.hwVersion with
  | .v1 => match eraOf c.firmwareVersion with
    | .old => 4
    | .new => 3
  | .v2 => 4
  | .v3 => 3
  | .focal => 5

/-- Whether a V1 session reports the rocker buttons (R156). -/
def reportsRocker (c : SessionConfig) : Bool :=
  eraOf c.firmwareVersion == .old && c.hasRocker

/-- The fields of a V1 frame that are present (R230, column V1). -/
abbrev Frame.shapeV1 (c : SessionConfig) (f : Frame) : Prop :=
  f.absX.isSome = (f.fingerCount != 0) ∧ f.absY.isSome = (f.fingerCount != 0) ∧
  f.pressure = none ∧ f.width = none ∧ f.right.isSome = true ∧
  f.forward.isSome = reportsRocker c ∧ f.back.isSome = reportsRocker c ∧ f.slots = []

/-- The fields of a V2 or V3 frame that are present (R230, columns V2 and V3). -/
abbrev Frame.shapeSemiMt (c : SessionConfig) (f : Frame) : Prop :=
  f.absX.isSome = (f.fingerCount != 0) ∧ f.absY.isSome = (f.fingerCount != 0) ∧
  f.pressure.isSome = c.reportsPressure ∧ f.width.isSome = c.reportsPressure ∧
  f.right.isSome = true ∧ f.forward = none ∧ f.back = none ∧
  f.slots.map SlotReport.index = [0, 1]

/-- The fields of a FOCAL frame that are present (R230, column FOCAL). -/
abbrev Frame.shapeFocal (f : Frame) : Prop :=
  f.absX = none ∧ f.absY = none ∧ f.pressure = none ∧ f.width = none ∧
  f.right = none ∧ f.forward = none ∧ f.back = none ∧
  f.slots.map SlotReport.index = [0, 1, 2, 3, 4]

/-- The frame is one that a session of this configuration can present (R230, R231). -/
def Frame.shape (c : SessionConfig) (f : Frame) : Prop :=
  f.fingerCount ≤ maxFingers c ∧ (∀ r ∈ f.slots, r.consistent) ∧
  match c.hwVersion with
  | .v1 => f.shapeV1 c
  | .v2 => f.shapeSemiMt c
  | .v3 => f.shapeSemiMt c
  | .focal => f.shapeFocal

/-- A reported coordinate does not exceed its bound. -/
def coordWithin (bound : Coord) (v : Option Coord) : Prop :=
  ∀ a, v = some a → a.toNat ≤ bound.toNat

/-- Every coordinate of the frame lies within the calibration bounds (R44(b)). -/
def Frame.within (c : SessionConfig) (f : Frame) : Prop :=
  coordWithin c.xMax f.absX ∧ coordWithin c.yMax f.absY ∧
  ∀ r ∈ f.slots, coordWithin c.xMax r.x ∧ coordWithin c.yMax r.y

/-! ### Which bits of a packet an operation reads (R91 to R102, R116) -/

/-- The bits that the decoding of this operation reads: 0 for a bit shown as a dot in its format table
or that the rules say is ignored. -/
def readMask : Instr → Packet
  | .v1Old _ => ⟨0xF7, 0xBF, 0xFF, 0xFF, 0x00, 0x00⟩
  | .v1New _ => ⟨0xF7, 0x0F, 0xFF, 0xFF, 0x00, 0x00⟩
  | .v2F0 _ => ⟨0xC3, 0x00, 0x00, 0x00, 0x00, 0x00⟩
  | .v2F1 _ => ⟨0xF3, 0xF7, 0xFF, 0x30, 0xF3, 0xFF⟩
  | .v2F2 _ => ⟨0xF3, 0xFF, 0xFF, 0x30, 0xFF, 0xFF⟩
  | .v2F3 _ => ⟨0xF3, 0xF7, 0xFF, 0xB0, 0xF3, 0xFF⟩
  | .v2F4 _ => ⟨0xF3, 0xF7, 0xFF, 0xB0, 0xF3, 0xFF⟩
  | .v3F0 _ => ⟨0xF3, 0xF0, 0x00, 0x30, 0xF0, 0x00⟩
  | .v3F1 _ => ⟨0xF3, 0xFF, 0xFF, 0x30, 0xFF, 0xFF⟩
  | .v3F3 _ => ⟨0xF3, 0xFF, 0xFF, 0x30, 0xFF, 0xFF⟩
  | .v3Head _ => ⟨0xFF, 0xFF, 0xFF, 0xFF, 0xFF, 0xFF⟩
  | .v3Tail _ => ⟨0xFF, 0xFF, 0xFF, 0x30, 0xFF, 0xFF⟩
  | .focTouch _ => ⟨0x1F, 0x1F, 0x00, 0x00, 0x00, 0x00⟩
  | .focAbs _ => ⟨0x1F, 0xFF, 0xFF, 0xFF, 0xFF, 0xFF⟩
  | .focRel _ => ⟨0xFF, 0xFF, 0xFF, 0x70, 0xFF, 0xFF⟩
  | .focUnk _ => ⟨0x0F, 0x00, 0x00, 0x00, 0x00, 0x00⟩
  | .feed _ => Packet.zero
  | .init _ => Packet.zero
  | .disconnect => Packet.zero
  | .setParitycheck _ => Packet.zero
  | .setDebug _ => Packet.zero

/-- Two packets agree on every bit of a mask. -/
abbrev agreeUnder (m p q : Packet) : Prop :=
  p.b0 &&& m.b0 = q.b0 &&& m.b0 ∧ p.b1 &&& m.b1 = q.b1 &&& m.b1 ∧
  p.b2 &&& m.b2 = q.b2 &&& m.b2 ∧ p.b3 &&& m.b3 = q.b3 &&& m.b3 ∧
  p.b4 &&& m.b4 = q.b4 &&& m.b4 ∧ p.b5 &&& m.b5 = q.b5 &&& m.b5

end Sys2Proof.Machine
end

