-- ==== Sys2Proof/Certificates/Slice0/Obligations.lean ====
section
/-! DEFINITION. The statements about the block, from the numbered rules of spec/. A docstring names the
rules a statement rests on, and the decisions of spec/92_eei_decisions.md (D<n>) or entries of the
assumption log where a clause rests on one. Every next state is written out as the state before with
the changed registers replaced, so each statement of a result is also its completion and its frame. -/

open Sys2Proof Sys2Proof.Machine

/-! ### Encodings (R90 to R120) -/

/-- Decoding the canonical bytes of a well-formed packet operation, in the context that selects it,
gives the operation back with every operand, and leaves the bytes that follow (R90, R110, R120; the
field positions are decisions D5 to D8, D11 to D14, D16, D17, D23, D24, D26, log 6). -/
def Obligations.DecodeOfEncodeIsTheInstruction : Prop :=
  ∀ (i : Instr) (hw : HwVersion) (oe : Option Era) (era : Era) (rest : List Byte),
    i.wellFormed = true → contextOf i = some (hw, oe) → (oe = none ∨ oe = some era) →
    ∃ bytes, encode i = bytes.map Event.byte ∧ bytes.length = packetSize hw ∧
      decodeBytes hw era (bytes ++ rest) = .ok (i, rest)

/-- FEED and the host operations are one port event each, and the event is read back as the operation
(R8, R110; an event list as the ports is log 1). -/
def Obligations.PortEventsAreTheirOperations : Prop :=
  (∀ i : Instr, contextOf i = none → ∃ e, encode i = [e] ∧ decodeEvent e = i) ∧
  (∀ e : Event, encode (decodeEvent e) = [e])

/-- Every six bytes decode, in every context, to a well-formed packet operation of that context
(R110, R115). -/
def Obligations.EveryPacketSelectsAWellFormedOperation : Prop :=
  ∀ (hw : HwVersion) (era : Era) (p : Packet),
    (decodePacket hw era p).wellFormed = true ∧ (decodePacket hw era p).isPacketOp = true ∧
    ∃ oe, contextOf (decodePacket hw era p) = some (hw, oe) ∧ (oe = none ∨ oe = some era)

/-- In every context exactly one row of the opcode table selects a packet word, and it is the row of
the decoded operation (R110, R111; the selector positions are D11, D16). -/
def Obligations.ExactlyOneTableRowSelectsEachPacket : Prop :=
  ∀ (hw : HwVersion) (era : Era) (p : Packet),
    (tableRows.filter fun r =>
        r.hw == hw && (r.era == none || r.era == some era) && r.selects (packetWord p)).map
      TableRow.mnemonic = [mnemonicOf (decodePacket hw era p)]

/-- A packet that agrees with another on every bit its operation reads decodes to the same operation
with the same operands (R91 to R102, R116; the positions are the decisions of log 6). -/
def Obligations.IgnoredBitsDoNotChangeTheDecoding : Prop :=
  ∀ (hw : HwVersion) (era : Era) (p q : Packet),
    agreeUnder (readMask (decodePacket hw era p)) p q →
    decodePacket hw era q = decodePacket hw era p

/-- Words written out from the format tables decode to what they stand for, one of each variant
(R91 to R104; the positions are the decisions of log 6). -/
def Obligations.WrittenOutWordsDecode : Prop :=
  decodeBytes .v1 .new [0x54, 0x06, 0x2C, 0x90] =
    .ok (.v1New ⟨false, false, true, false, true, 1, 300, 656⟩, []) ∧
  decodeBytes .v2 .new [0x90, 0x2C, 0x96, 0x30, 0xF4, 0x5E] =
    .ok (.v2F2 ⟨false, false, 300, 150, 500, 350⟩, []) ∧
  decodeBytes .v3 .new [0x84, 0x01, 0x2C, 0x00, 0x00, 0x64] =
    .ok (.v3Head ⟨0x84, 0x01, 0x2C, 0x00, 0x00, 0x64⟩, []) ∧
  decodeBytes .focal .new [0x39, 0x05, 0xFD, 0x00, 0x00, 0x00] =
    .ok (.focRel ⟨false, 3, 0x05, 0xFD, 0, 0x00, 0x00⟩, [])

/-! ### The accumulator, the dispatch and the step (R68, R130 to R135) -/

/-- FEED (R130, R133, R142, R144): refused with no session (R255, decision D32, log 10); otherwise it stores the byte at `acc_count`; it
counts it, or, at the last byte of a packet, returns `acc_count` to 0, raises `pkt_ready` and in the
same step drops a V1 packet of wrong parity or performs the operation the packet selects. -/
def Obligations.FeedStoresCountsAndDispatches : Prop :=
  ∀ (s : State) (b : Byte),
    (s.sessionLive = false → exec (.feed b) s = .refused .sessionNotLive) ∧
    (s.sessionLive = true → s.accCount.toNat < packetSize s.cfg.hwVersion →
      ∃ p : Packet,
        (∀ k, packetGet p k = if k = s.accCount.toNat then some b else packetGet s.buf k) ∧
        (s.accCount.toNat + 1 ≠ packetSize s.cfg.hwVersion →
          exec (.feed b) s = .next { s with
            buf := p, accCount := s.accCount + 1, out := ⟨false, none, .none⟩ }) ∧
        (s.accCount.toNat + 1 = packetSize s.cfg.hwVersion →
          (∃ t, exec (.feed b) s = .next t ∧ t.accCount = 0 ∧ t.out.pktReady = true) ∧
          (s.cfg.hwVersion = .v1 ∧ s.cfg.paritycheck = true ∧
              parityOk (eraOf s.cfg.firmwareVersion) p = false →
            exec (.feed b) s = .next { s with
              buf := p, accCount := 0, out := ⟨true, none, .v1ParityDrop⟩ }) ∧
          (¬ (s.cfg.hwVersion = .v1 ∧ s.cfg.paritycheck = true ∧
              parityOk (eraOf s.cfg.firmwareVersion) p = false) →
            exec (.feed b) s =
              exec (decodePacket s.cfg.hwVersion (eraOf s.cfg.firmwareVersion) p)
                { s with buf := p, accCount := 0 })))

/-- A step performs the oldest pending event, and with none pending it changes nothing but the ports,
which are idle (R8, R72; the event list and the idle step are the model's, log 1 and log 3). -/
def Obligations.StepPerformsTheNextEvent : Prop :=
  (∀ (s : State) (e : Event) (es : List Event), s.input = e :: es →
    step s = exec (decodeEvent e) { s with input := es }) ∧
  (∀ s : State, s.input = [] → step s = .next { s with out := ⟨false, none, .none⟩ })

/-- A step runs the decoded instruction: when the bytes already buffered and the next byte are a whole
packet that decodes to `i`, the step is `exec i` on the state that holds the packet in `buf`, with
`acc_count` at 0 and the event consumed (R75, R130, R133; V1 with the validator off, R142). -/
def Obligations.CompletingStepRunsTheDecodedInstruction : Prop :=
  ∀ (s : State) (b : Byte) (es : List Event) (i : Instr),
    s.input = .byte b :: es → s.sessionLive = true →
    s.accCount.toNat + 1 = packetSize s.cfg.hwVersion →
    (s.cfg.hwVersion = .v1 → s.cfg.paritycheck = false) →
    decodeBytes s.cfg.hwVersion (eraOf s.cfg.firmwareVersion) (bufferedBytes s ++ [b]) =
      .ok (i, []) →
    ∃ p : Packet,
      packetBytes s.cfg.hwVersion p = bufferedBytes s ++ [b] ∧
      step s = exec i { s with buf := p, accCount := 0, input := es }

/-- Feeding any list of bytes to a live session completes, and leaves `acc_count` advanced by their
number modulo `S`, whatever the bytes are: framing is by counting alone (R33, R68). -/
def Obligations.FramingCountsBytesModuloThePacketSize : Prop :=
  ∀ (bytes : List Byte) (s : State) (es : List Event),
    s.Inv → s.sessionLive = true → s.input = bytes.map Event.byte ++ es →
    ∃ t, Host.Core.run Sys2Proof.core bytes.length s = .next t ∧
      t.accCount.toNat = (s.accCount.toNat + bytes.length) % packetSize s.cfg.hwVersion ∧
      t.input = es ∧ t.cfg = s.cfg ∧ t.sessionLive = true

/-- A table word placed by `withFetchWord` is run by the very next step: it is `exec` of the decoded
instruction, on a live session, with the event consumed and every data register but `buf` and
`acc_count` as before (the context a bare table word is read in is the model's choice, log 11). -/
def Obligations.PlacedTableWordIsRunByTheNextStep : Prop :=
  ∀ (s : State) (nbits w : Nat) (i : Instr), decodeTableWord nbits w = some i →
    ∃ u : State, step (s.withFetchWord nbits w) = exec i u ∧
      u = { s with sessionLive := true, cfg := u.cfg, buf := u.buf, accCount := 0 }

/-! ### Invariants of the whole machine -/

/-- `acc_count < S` and `streak <= 2` are kept by every step, from every state that has them (R33,
R34, R44). -/
def Obligations.EveryStepKeepsTheInvariant : Prop :=
  ∀ s t : State, s.Inv → step s = .next t → t.Inv

/-- The power-on state has the invariant (R44; its register values are the model's choice, log 4, and
INIT's state has it too, R45). -/
def Obligations.ResetSatisfiesTheInvariant : Prop :=
  State.reset.Inv ∧ ∀ (s t : State) (c : SessionConfig), exec (.init c) s = .next t → t.Inv

/-- No legal state can fault: every bit pattern is some packet and every operation is total (R115). -/
def Obligations.NoStepFaults : Prop :=
  ∀ (s : State) (r : Fault), s.Inv → step s ≠ .fault r

/-- A step from a legal state answers a next state exactly when its event is one the host may issue, or
when no event is pending (R115, R251, R255; that other events are refused is decision D32 and log 10,
that a step with no event pending completes is the model's choice, log 3). -/
def Obligations.StepCompletesExactlyOnLegalEvents : Prop :=
  ∀ s : State, s.Inv → ((∃ t, step s = .next t) ↔ nextEventLegal s = true)

/-- Whatever a step does, its strobes agree with its outcome code: `pkt_ready` with every code but
NONE, a frame with exactly the codes of the table (R260; the codes are decision D30, the output ports
in the state are log 2). -/
def Obligations.OutputPortsAgreeWithTheOutcome : Prop :=
  ∀ s t : State, step s = .next t → t.out.consistent

/-- Every frame that a step presents has the fields, the slot reports and the finger-count range that
the frame table gives its variant (R230, R231; the record is decision D1, the output ports in the state
are log 2). -/
def Obligations.EveryFrameHasTheShapeOfItsVariant : Prop :=
  ∀ (s t : State) (f : Frame), step s = .next t → t.out.frame = some f → f.shape t.cfg

/-- Under V3 no frame carries a coordinate outside the calibration bounds (R44(b), R196; that both
fingers of a pair are checked is decision D21). -/
def Obligations.V3FramesLieWithinTheBounds : Prop :=
  ∀ (s t : State) (f : Frame), s.cfg.hwVersion = .v3 → s.sessionLive = true →
    step s = .next t → t.out.frame = some f → f.within s.cfg

/-- While a session is live no operation changes a control register other than `paritycheck` and
`debug`, and FEED changes none (R21, R31, R293). -/
def Obligations.ConfigurationIsFixedInASession : Prop :=
  (∀ (i : Instr) (s t : State), s.sessionLive = true → exec i s = .next t →
    t.cfg = { s.cfg with paritycheck := t.cfg.paritycheck, debug := t.cfg.debug }) ∧
  (∀ (b : Byte) (s t : State), exec (.feed b) s = .next t → t.cfg = s.cfg)

/-- No operation writes the parameter `FOCAL_Y_HI_MASK` or the events still to come (R6; both are
fields of the model's State, log 5 and log 1). -/
def Obligations.TheParameterIsNeverWritten : Prop :=
  ∀ (i : Instr) (s t : State), exec i s = .next t →
    t.focalYHiMask = s.focalYHiMask ∧ t.input = s.input

/-- What FEED leaves alone, by variant: bytes of `buf` other than the one at `acc_count`; the streak
outside V1; the pending buffer outside V3; the slot file under V1, its upper three entries and every
`valid` under V2 and V3; the click state outside FOCAL; `session_live` always (R34 to R37, R46; the
semi-MT use of two slots is decision D34, V1's of none D9). -/
def Obligations.FeedKeepsTheRegistersOfOtherVariants : Prop :=
  ∀ (b : Byte) (s t : State), exec (.feed b) s = .next t →
    (∀ k, k ≠ s.accCount.toNat → packetGet t.buf k = packetGet s.buf k) ∧
    (s.cfg.hwVersion ≠ .v1 → t.streak = s.streak) ∧
    (s.cfg.hwVersion ≠ .v3 → t.pendValid = s.pendValid ∧ t.pend = s.pend) ∧
    (s.cfg.hwVersion = .v1 → t.slots = s.slots) ∧
    (s.cfg.hwVersion = .v2 ∨ s.cfg.hwVersion = .v3 →
      upperSlotsKept s t ∧ ∀ i : Fin 5, t.slots[i].valid = s.slots[i].valid) ∧
    (s.cfg.hwVersion ≠ .focal → t.focalPressed = s.focalPressed) ∧
    t.sessionLive = s.sessionLive

/-- `debug` is read by nothing: changing it before any operation other than INIT and SET_DEBUG changes
nothing but `debug` itself after it (R30, R254). -/
def Obligations.DebugFlagHasNoEffect : Prop :=
  ∀ (i : Instr) (s : State) (d : Bool), (∀ c, i ≠ .init c) → (∀ v, i ≠ .setDebug v) →
    exec i { s with cfg := { s.cfg with debug := d } } =
      mapNext (fun t => { t with cfg := { t.cfg with debug := d } }) (exec i s)

/-! ### Parity (R140 to R144) -/

/-- The parity ROM obeys its construction (R140). -/
def Obligations.ParityTableFollowsItsRecurrence : Prop :=
  parity 0 = true ∧ ∀ i : Byte, i ≠ 0 → parity i = !parity (i &&& (i - 1))

/-- An entry of the parity ROM is 1 exactly for an even number of one bits (R141). -/
def Obligations.ParityIsOneForAnEvenNumberOfOnes : Prop :=
  ∀ i : Byte, parity i = decide ((List.range 8).countP (fun k => i.getLsbD k) % 2 = 0)

/-- Flipping any one bit of byte 1, 2 or 3, or any one of the three parity bits, makes a valid packet
invalid (R143; the places of the first two parity bits are decision D6). -/
def Obligations.OneFlippedBitFailsTheParityCheck : Prop :=
  ∀ (era : Era) (p : Packet), parityOk era p = true →
    (∀ k < 8, parityOk era { p with b1 := p.b1 ^^^ (1#8 <<< k) } = false ∧
      parityOk era { p with b2 := p.b2 ^^^ (1#8 <<< k) } = false ∧
      parityOk era { p with b3 := p.b3 ^^^ (1#8 <<< k) } = false) ∧
    parityOk era { p with b0 := p.b0 ^^^ 0x04 } = false ∧
    parityOk era { p with b0 := p.b0 ^^^ 0x10 } = false ∧
    parityOk era { p with b0 := p.b0 ^^^ 0x20 } = false

/-- A packet is dropped for its parity only under V1, only while `paritycheck` is set, and only when it
fails the predicate; and the drop changes nothing but the accumulator and the ports (R142, R144). -/
def Obligations.ParityDropsOnlyInvalidV1Packets : Prop :=
  ∀ (b : Byte) (s t : State), exec (.feed b) s = .next t → t.out.outcome = .v1ParityDrop →
    s.cfg.hwVersion = .v1 ∧ s.cfg.paritycheck = true ∧
    parityOk (eraOf s.cfg.firmwareVersion) t.buf = false ∧
    t = { s with buf := t.buf, accCount := 0, out := ⟨true, none, .v1ParityDrop⟩ }

/-! ### V1 (R150 to R158) -/

/-- `V1_NEW`: with the workaround on, a one-finger packet below streak 2 is discarded and counted;
every other packet gives its frame, and resets the streak when its count is not 1. With the workaround
off the streak is kept (R150 to R155, R157; widths D2, streak with the flag clear D10, no slots D9). -/
def Obligations.V1NewReportsOrDiscards : Prop :=
  ∀ (o : V1NewForm) (s : State),
    (s.cfg.jumpyCursorWorkaround = true ∧ o.fingers = 1#2 ∧ s.streak.toNat < 2 →
      exec (.v1New o) s = .next { s with
        streak := s.streak + 1, out := ⟨true, none, .v1JumpyDiscard⟩ }) ∧
    (¬ (s.cfg.jumpyCursorWorkaround = true ∧ o.fingers = 1#2 ∧ s.streak.toNat < 2) →
      exec (.v1New o) s = .next { s with
        streak := if s.cfg.jumpyCursorWorkaround = true ∧ o.fingers ≠ 1#2 then 0 else s.streak
        out := ⟨true, some {
          fingerCount := o.fingers.toNat
          absX := if o.fingers = 0#2 then none else some (o.x.setWidth 16)
          absY := if o.fingers = 0#2 then none else some (s.cfg.yMax - o.y.setWidth 16)
          pressure := none
          width := none
          left := o.left
          right := some o.right
          forward := none
          back := none
          slots := [] }, .frame⟩ })

/-- `V1_OLD`: as `V1_NEW`, with the count `f + m` and, when the rocker capability bit is set, the
rocker buttons (R150 to R157; the count formula is decision D7, widths D2, D10, D9). -/
def Obligations.V1OldReportsOrDiscards : Prop :=
  ∀ (o : V1OldForm) (s : State),
    (s.cfg.jumpyCursorWorkaround = true ∧ o.f.toNat + o.m.toNat = 1 ∧ s.streak.toNat < 2 →
      exec (.v1Old o) s = .next { s with
        streak := s.streak + 1, out := ⟨true, none, .v1JumpyDiscard⟩ }) ∧
    (¬ (s.cfg.jumpyCursorWorkaround = true ∧ o.f.toNat + o.m.toNat = 1 ∧ s.streak.toNat < 2) →
      exec (.v1Old o) s = .next { s with
        streak :=
          if s.cfg.jumpyCursorWorkaround = true ∧ o.f.toNat + o.m.toNat ≠ 1 then 0 else s.streak
        out := ⟨true, some {
          fingerCount := o.f.toNat + o.m.toNat
          absX := if o.f.toNat + o.m.toNat = 0 then none else some (o.x.setWidth 16)
          absY := if o.f.toNat + o.m.toNat = 0 then none else some (s.cfg.yMax - o.y.setWidth 16)
          pressure := none
          width := none
          left := o.left
          right := some o.right
          forward := if s.cfg.hasRocker then some o.forward else none
          back := if s.cfg.hasRocker then some o.back else none
          slots := [] }, .frame⟩ })

/-- With the workaround on, a V1 packet of either format whose count is not 1 starts the streak again, and
of the one-finger packets that follow it the first two give no frame and the third does (R152; that the
streak stays at 2 is decision D10, the count of era OLD is decision D7). -/
def Obligations.TwoOneFingerPacketsAreDiscardedAfterAnyOtherCount : Prop :=
  ∀ (i a b c : Instr) (n : Nat) (s : State), s.cfg.jumpyCursorWorkaround = true →
    v1Count i = some n → n ≠ 1 → v1Count a = some 1 → v1Count b = some 1 → v1Count c = some 1 →
    ∃ t u v w, exec i s = .next t ∧ exec a t = .next u ∧ exec b u = .next v ∧ exec c v = .next w ∧
      t.out.frame.isSome = true ∧ t.streak = 0 ∧ u.out.frame = none ∧ u.streak = 1 ∧
      v.out.frame = none ∧ v.streak = 2 ∧ w.out.frame.isSome = true ∧ w.streak = 2

/-! ### V2 (R171 to R179, R233) -/

/-- `V2_F0`: both slots inactive with their positions kept, and a frame of buttons and, where reported,
zero pressure and width (R171, R172, R178, R233; D14, D15, D34). -/
def Obligations.V2NoFingerReleasesBothSlots : Prop :=
  ∀ (o : V2NoneForm) (s : State), ∃ t, exec (.v2F0 o) s = .next t ∧
    t = { s with slots := t.slots, out := ⟨true, some {
      fingerCount := 0
      absX := none
      absY := none
      pressure := if s.cfg.reportsPressure then some 0 else none
      width := if s.cfg.reportsPressure then some 0 else none
      left := o.left
      right := some o.right
      forward := none
      back := none
      slots := [⟨0, false, none, none⟩, ⟨1, false, none, none⟩] }, .frame⟩ } ∧
    t.slots[0] = { s.slots[0] with active := false } ∧
    t.slots[1] = { s.slots[1] with active := false } ∧ upperSlotsKept s t

/-- `V2_F1`, `V2_F3`, `V2_F4`: one position, in slot 0 and as the legacy position, with counts 1, 3 and
4 decoded alike (R171, R173, R174, R176, R178, R233; widths D2, inversion and legacy position D12,
buttons D14, presence of pressure D15, slot registers D34). -/
def Obligations.V2OnePositionCountsShareOneDecoding : Prop :=
  ∀ (o : V2OneForm) (s : State) (i : Instr) (n : Nat),
    (i = .v2F1 o ∧ n = 1) ∨ (i = .v2F3 o ∧ n = 3) ∨ (i = .v2F4 o ∧ n = 4) →
    ∃ t, exec i s = .next t ∧
      t = { s with slots := t.slots, out := ⟨true, some {
        fingerCount := n
        absX := some (o.x.setWidth 16)
        absY := some (s.cfg.yMax - o.y.setWidth 16)
        pressure := if s.cfg.reportsPressure then some o.pressure else none
        width := if s.cfg.reportsPressure then some (o.width.setWidth 8) else none
        left := o.left
        right := some o.right
        forward := none
        back := none
        slots := [⟨0, true, some (o.x.setWidth 16), some (s.cfg.yMax - o.y.setWidth 16)⟩,
          ⟨1, false, none, none⟩] }, .frame⟩ } ∧
      t.slots[0] = { s.slots[0] with
        active := true, x := o.x.setWidth 16, y := s.cfg.yMax - o.y.setWidth 16 } ∧
      t.slots[1] = { s.slots[1] with active := false } ∧ upperSlotsKept s t

/-- `V2_F2`: two positions against `y_max_2ft`, the legacy position shifted left by 2 in 16 bits,
pressure 127 and width 7 (R171, R175, R176, R178, R233; widths D2, order of inversion and shift D13,
D14, D15, D34). -/
def Obligations.V2TwoFingersReportBothAndShiftTheLegacyPosition : Prop :=
  ∀ (o : V2TwoForm) (s : State), ∃ t, exec (.v2F2 o) s = .next t ∧
    t = { s with slots := t.slots, out := ⟨true, some {
      fingerCount := 2
      absX := some (BitVec.ofNat 16 (o.ax.toNat * 4))
      absY := some (BitVec.ofNat 16 ((s.cfg.yMax2ft - o.ay.setWidth 16).toNat * 4))
      pressure := if s.cfg.reportsPressure then some 127 else none
      width := if s.cfg.reportsPressure then some 7 else none
      left := o.left
      right := some o.right
      forward := none
      back := none
      slots := [⟨0, true, some (o.ax.setWidth 16), some (s.cfg.yMax2ft - o.ay.setWidth 16)⟩,
        ⟨1, true, some (o.bx.setWidth 16), some (s.cfg.yMax2ft - o.bY.setWidth 16)⟩] },
      .frame⟩ } ∧
    t.slots[0] = { s.slots[0] with
      active := true, x := o.ax.setWidth 16, y := s.cfg.yMax2ft - o.ay.setWidth 16 } ∧
    t.slots[1] = { s.slots[1] with
      active := true, x := o.bx.setWidth 16, y := s.cfg.yMax2ft - o.bY.setWidth 16 } ∧
    upperSlotsKept s t

/-! ### V3 (R191 to R200) -/

/-- The bounds test on the inverted Y is the test `y_raw > y_max` (R196; 16 bits are decision D2). -/
def Obligations.InvertedYExceedsItsBoundExactlyWhenItWraps : Prop :=
  ∀ (yMax : Coord) (raw : BitVec 12),
    yMax.toNat < (invertY yMax raw).toNat ↔ yMax.toNat < raw.toNat

/-- `V3_F0`: no position, both slots inactive, nothing pending any more; pressure and width come from
the packet (R191, R195, R197 to R199, R233; D14, D20, D34, D38). -/
def Obligations.V3NoFingerReleasesAndClearsPending : Prop :=
  ∀ (o : V3NoneForm) (s : State), ∃ t, exec (.v3F0 o) s = .next t ∧
    t = { s with pendValid := false, slots := t.slots, out := ⟨true, some {
      fingerCount := 0
      absX := none
      absY := none
      pressure := if s.cfg.reportsPressure then some o.pressure else none
      width := if s.cfg.reportsPressure then some (o.width.setWidth 8) else none
      left := o.left
      right := some o.right
      forward := none
      back := none
      slots := [⟨0, false, none, none⟩, ⟨1, false, none, none⟩] }, .frame⟩ } ∧
    t.slots[0] = { s.slots[0] with active := false } ∧
    t.slots[1] = { s.slots[1] with active := false } ∧ upperSlotsKept s t

/-- `V3_F1` and `V3_F3`: in bounds, the one position in slot 0 and as the legacy position; out of
bounds, no frame and no slot write; nothing pending any more either way (R191, R194, R196 to R199,
R233; D2, D14, D16, D21, D22, D34). -/
def Obligations.V3OneFingerReportsOrRejects : Prop :=
  ∀ (o : V3OneForm) (s : State) (i : Instr) (n : Nat),
    (i = .v3F1 o ∧ n = 1) ∨ (i = .v3F3 o ∧ n = 3) →
    (s.cfg.xMax.toNat < o.x.toNat ∨ s.cfg.yMax.toNat < o.y.toNat →
      exec i s = .next { s with
        pendValid := false, out := ⟨true, none, .v3BoundsReject⟩ }) ∧
    (o.x.toNat ≤ s.cfg.xMax.toNat → o.y.toNat ≤ s.cfg.yMax.toNat →
      ∃ t, exec i s = .next t ∧
        t = { s with pendValid := false, slots := t.slots, out := ⟨true, some {
          fingerCount := n
          absX := some (o.x.setWidth 16)
          absY := some (s.cfg.yMax - o.y.setWidth 16)
          pressure := if s.cfg.reportsPressure then some o.pressure else none
          width := if s.cfg.reportsPressure then some (o.width.setWidth 8) else none
          left := o.left
          right := some o.right
          forward := none
          back := none
          slots := [⟨0, true, some (o.x.setWidth 16), some (s.cfg.yMax - o.y.setWidth 16)⟩,
            ⟨1, false, none, none⟩] }, .frame⟩ } ∧
        t.slots[0] = { s.slots[0] with
          active := true, x := o.x.setWidth 16, y := s.cfg.yMax - o.y.setWidth 16 } ∧
        t.slots[1] = { s.slots[1] with active := false } ∧ upperSlotsKept s t)

/-- `V3_HEAD`: the six bytes are stored as the pending packet, over any other, with no frame, no slot
write and no bounds check (R192; overwriting is decision D22). -/
def Obligations.V3HeadIsStoredWithoutAFrame : Prop :=
  ∀ (p : Packet) (s : State),
    exec (.v3Head p) s = .next { s with
      pendValid := true, pend := p, out := ⟨true, none, .v3HeadStored⟩ }

/-- `V3_TAIL` with nothing pending: one finger from its own bytes, or a bounds reject, which goes
before the outcome for an unpaired TAIL (R193(b), R196 to R199, R233, R272; D14, D19, D21, D22, D34). -/
def Obligations.V3UnpairedTailIsOneFinger : Prop :=
  ∀ (o : V3TailForm) (s : State), s.pendValid = false →
    (s.cfg.xMax.toNat < o.x.toNat ∨ s.cfg.yMax.toNat < o.y.toNat →
      exec (.v3Tail o) s = .next { s with out := ⟨true, none, .v3BoundsReject⟩ }) ∧
    (o.x.toNat ≤ s.cfg.xMax.toNat → o.y.toNat ≤ s.cfg.yMax.toNat →
      ∃ t, exec (.v3Tail o) s = .next t ∧
        t = { s with slots := t.slots, out := ⟨true, some {
          fingerCount := 1
          absX := some (o.x.setWidth 16)
          absY := some (s.cfg.yMax - o.y.setWidth 16)
          pressure := if s.cfg.reportsPressure then some o.pressure else none
          width := if s.cfg.reportsPressure then some (o.width.setWidth 8) else none
          left := o.left
          right := some o.right
          forward := none
          back := none
          slots := [⟨0, true, some (o.x.setWidth 16), some (s.cfg.yMax - o.y.setWidth 16)⟩,
            ⟨1, false, none, none⟩] }, .v3TailUnpaired⟩ } ∧
        t.slots[0] = { s.slots[0] with
          active := true, x := o.x.setWidth 16, y := s.cfg.yMax - o.y.setWidth 16 } ∧
        t.slots[1] = { s.slots[1] with active := false } ∧ upperSlotsKept s t)

/-- `V3_TAIL` with a packet pending: finger 1, pressure and width from the pending packet, finger 2 and
the buttons from this one; a position out of bounds, of either, suppresses the frame; nothing is
pending any more either way (R193(a), R196 to R199, R233; D14, D17, D20 to D22, D34). -/
def Obligations.V3PairedTailJoinsThePendingPacket : Prop :=
  ∀ (o : V3TailForm) (s : State), s.pendValid = true →
    ((s.cfg.xMax.toNat < (Layout.v3X s.pend).toNat ∨ s.cfg.yMax.toNat < (Layout.v3Y s.pend).toNat ∨
        s.cfg.xMax.toNat < o.x.toNat ∨ s.cfg.yMax.toNat < o.y.toNat) →
      exec (.v3Tail o) s = .next { s with
        pendValid := false, out := ⟨true, none, .v3BoundsReject⟩ }) ∧
    ((Layout.v3X s.pend).toNat ≤ s.cfg.xMax.toNat → (Layout.v3Y s.pend).toNat ≤ s.cfg.yMax.toNat →
      o.x.toNat ≤ s.cfg.xMax.toNat → o.y.toNat ≤ s.cfg.yMax.toNat →
      ∃ t, exec (.v3Tail o) s = .next t ∧
        t = { s with pendValid := false, slots := t.slots, out := ⟨true, some {
          fingerCount := 2
          absX := some ((Layout.v3X s.pend).setWidth 16)
          absY := some (s.cfg.yMax - (Layout.v3Y s.pend).setWidth 16)
          pressure := if s.cfg.reportsPressure then some (Layout.pressure s.pend) else none
          width :=
            if s.cfg.reportsPressure then some ((Layout.width s.pend).setWidth 8) else none
          left := o.left
          right := some o.right
          forward := none
          back := none
          slots := [
            ⟨0, true, some ((Layout.v3X s.pend).setWidth 16),
              some (s.cfg.yMax - (Layout.v3Y s.pend).setWidth 16)⟩,
            ⟨1, true, some (o.x.setWidth 16), some (s.cfg.yMax - o.y.setWidth 16)⟩] },
          .frame⟩ } ∧
        t.slots[0] = { s.slots[0] with
          active := true
          x := (Layout.v3X s.pend).setWidth 16
          y := s.cfg.yMax - (Layout.v3Y s.pend).setWidth 16 } ∧
        t.slots[1] = { s.slots[1] with
          active := true, x := o.x.setWidth 16, y := s.cfg.yMax - o.y.setWidth 16 } ∧
        upperSlotsKept s t)

/-- Under V3 a packet is pending after a completed packet exactly when that packet was a HEAD, and the
pending packet is then the one just completed (R136, R192, R199; clearing on a reject is decision
D22). -/
def Obligations.APacketIsPendingExactlyAfterAHead : Prop :=
  ∀ (b : Byte) (s t : State), s.cfg.hwVersion = .v3 →
    s.accCount.toNat + 1 = packetSize s.cfg.hwVersion → exec (.feed b) s = .next t →
    (t.pendValid = true ↔ t.out.outcome = .v3HeadStored) ∧ (t.pendValid = true → t.pend = t.buf)

/-- With nothing pending no packet operation reads the pending bytes: other bytes there change nothing
but themselves (R35). -/
def Obligations.StalePendingBytesAreNeverRead : Prop :=
  ∀ (i : Instr) (s : State) (q : Packet), i.isPacketOp = true → (∀ p, i ≠ .v3Head p) →
    s.pendValid = false →
    exec i { s with pend := q } = mapNext (fun t => { t with pend := q }) (exec i s)

/-- A HEAD then a TAIL, both in bounds, give no frame and then one two-finger frame: finger 1 from the
HEAD, finger 2 from the TAIL, nothing pending at the end (R121, R192, R193(a); positions D17). -/
def Obligations.HeadThenTailGivesOneTwoFingerFrame : Prop :=
  ∀ (p : Packet) (o : V3TailForm) (s : State),
    (Layout.v3X p).toNat ≤ s.cfg.xMax.toNat → (Layout.v3Y p).toNat ≤ s.cfg.yMax.toNat →
    o.x.toNat ≤ s.cfg.xMax.toNat → o.y.toNat ≤ s.cfg.yMax.toNat →
    ∃ t u f, exec (.v3Head p) s = .next t ∧ t.out.frame = none ∧
      exec (.v3Tail o) t = .next u ∧ u.pendValid = false ∧ u.out = ⟨true, some f, .frame⟩ ∧
      f.fingerCount = 2 ∧
      f.slots = [
        ⟨0, true, some ((Layout.v3X p).setWidth 16),
          some (s.cfg.yMax - (Layout.v3Y p).setWidth 16)⟩,
        ⟨1, true, some (o.x.setWidth 16), some (s.cfg.yMax - o.y.setWidth 16)⟩]

/-! ### FOCAL (R211 to R221, R236, R237) -/

/-- The FOCAL frame: every slot is reported, with its stored position exactly when active and valid;
the count is the number of those; the click state is `left`; nothing else is reported (R236; D27,
D28). -/
def Obligations.FocalFrameReportsActiveAndValidSlots : Prop :=
  ∀ (v : Vector Slot 5) (pressed : Bool),
    focFrame v pressed = {
      fingerCount := (List.finRange 5).countP fun i => v[i].active && v[i].valid
      absX := none
      absY := none
      pressure := none
      width := none
      left := pressed
      right := none
      forward := none
      back := none
      slots := (List.finRange 5).map fun i =>
        if v[i].active && v[i].valid then ⟨i, true, some v[i].x, some v[i].y⟩
        else ⟨i, false, none, none⟩ }

/-- Every completed FOCAL packet, whatever its kind and outcome, gives exactly one frame: the resync of
the slot file and click state that it leaves (R211). -/
def Obligations.EveryFocalPacketResyncs : Prop :=
  ∀ (b : Byte) (s : State), s.cfg.hwVersion = .focal → s.sessionLive = true →
    s.accCount.toNat + 1 = packetSize s.cfg.hwVersion →
    ∃ t, exec (.feed b) s = .next t ∧ t.out.frame = some (focFrame t.slots t.focalPressed)

/-- `FOC_TOUCH`: bit `i` becomes `active` of slot `i`; `valid` stays only where the slot was active and
stays so; positions are kept; the click state is taken (R212, R213; bit-to-slot map and clearing on
inactivation D23). -/
def Obligations.FocTouchSetsActivity : Prop :=
  ∀ (o : FocTouchForm) (s : State), ∃ t, exec (.focTouch o) s = .next t ∧
    t = { s with
      slots := t.slots
      focalPressed := o.pressed
      out := ⟨true, some (focFrame t.slots o.pressed), .frame⟩ } ∧
    ∀ i : Fin 5, t.slots[i] = {
      active := o.bitmap.getLsbD i
      valid := s.slots[i].valid && s.slots[i].active && o.bitmap.getLsbD i
      x := s.slots[i].x
      y := s.slots[i].y }

/-- `FOC_ABS` for finger 1 to 5: the slot one below takes the position and becomes valid, or at the
sentinel size byte only loses `valid`; `active` and every other slot are kept; the click state is taken
(R214, R216; places D24). The high part of Y is byte 3 through the mask, for every mask; under the
default mask Y is byte 4 alone. -/
def Obligations.FocAbsPlacesOneSlot : Prop :=
  ∀ (o : FocAbsForm) (s : State), 1 ≤ o.fidx.toNat → o.fidx.toNat ≤ 5 →
    ∃ t, exec (.focAbs o) s = .next t ∧
      t = { s with
        slots := t.slots
        focalPressed := o.pressed
        out := ⟨true, some (focFrame t.slots o.pressed), .frame⟩ } ∧
      ∀ i : Fin 5,
        (i.val + 1 ≠ o.fidx.toNat → t.slots[i] = s.slots[i]) ∧
        (i.val + 1 = o.fidx.toNat → o.z = 0xFF →
          t.slots[i] = { s.slots[i] with valid := false }) ∧
        (i.val + 1 = o.fidx.toNat → o.z ≠ 0xFF →
          t.slots[i] = { s.slots[i] with
            valid := true
            x := o.x.setWidth 16
            y := BitVec.ofNat 16 ((o.yHi &&& s.focalYHiMask).toNat * 256 + o.yLo.toNat) } ∧
          (s.focalYHiMask = 0x00 → t.slots[i].y = o.yLo.setWidth 16))

/-- The sentinel: with size byte 0xFF the slot named loses `valid` and keeps `active`, `x` and `y`, and
is reported inactive, and the click state is taken; with any other size byte the slot becomes valid, and
which other value it was makes no difference (R216). -/
def Obligations.OnlyTheSentinelSizeHidesTheSlot : Prop :=
  ∀ (o : FocAbsForm) (s : State) (i : Fin 5), o.fidx.toNat = i.val + 1 →
    ∃ t, exec (.focAbs o) s = .next t ∧ t.focalPressed = o.pressed ∧
      (o.z = 0xFF → t.slots[i] = { s.slots[i] with valid := false } ∧
        ∃ f, t.out.frame = some f ∧ f.slots[i.val]? = some ⟨i, false, none, none⟩) ∧
      (o.z ≠ 0xFF → t.slots[i].valid = true ∧
        ∀ z : Byte, z ≠ 0xFF → exec (.focAbs { o with z := z }) s = .next t)

/-- `FOC_ABS` with finger nibble 0 or 6 to 15 changes no register; the resync frame is presented all
the same (R211, R215; that the click bit is not taken is decision D25). -/
def Obligations.FocAbsIgnoresOtherFingers : Prop :=
  ∀ (o : FocAbsForm) (s : State), (o.fidx.toNat = 0 ∨ 6 ≤ o.fidx.toNat) →
    exec (.focAbs o) s = .next { s with
      out := ⟨true, some (focFrame s.slots s.focalPressed), .focAbsBadFinger⟩ }

/-- `FOC_REL`: a slot moves by the first deltas if the first index names it and by the second if the
second does, by both if both do, modulo 2^16 and whatever its flags; flags are kept; index 0 moves
nothing; 6 or 7 moves nothing and shows in the outcome; the click state is taken (R217, R218; places
and arithmetic D26). -/
def Obligations.FocRelAddsSignedDeltas : Prop :=
  ∀ (o : FocRelForm) (s : State), ∃ t, exec (.focRel o) s = .next t ∧
    t = { s with
      slots := t.slots
      focalPressed := o.pressed
      out := ⟨true, some (focFrame t.slots o.pressed),
        if 6 ≤ o.idx1.toNat ∨ 6 ≤ o.idx2.toNat then .focRelBadFinger else .frame⟩ } ∧
    ∀ i : Fin 5, t.slots[i] = { s.slots[i] with
      x := s.slots[i].x +
        (if o.idx1.toNat = i.val + 1 then o.dx1.signExtend 16 else 0) +
        (if o.idx2.toNat = i.val + 1 then o.dx2.signExtend 16 else 0)
      y := s.slots[i].y +
        (if o.idx1.toNat = i.val + 1 then o.dy1.signExtend 16 else 0) +
        (if o.idx2.toNat = i.val + 1 then o.dy2.signExtend 16 else 0) }

/-- Two successive Rel packets for one slot, with nothing in their second index fields, move it by the
sum of their deltas (R217, R218). -/
def Obligations.SuccessiveRelPacketsAccumulate : Prop :=
  ∀ (o q : FocRelForm) (s : State) (i : Fin 5),
    o.idx1.toNat = i.val + 1 → q.idx1.toNat = i.val + 1 → o.idx2 = 0 → q.idx2 = 0 →
    ∃ t u, exec (.focRel o) s = .next t ∧ exec (.focRel q) t = .next u ∧
      u.slots[i].x = s.slots[i].x + (o.dx1.signExtend 16 + q.dx1.signExtend 16) ∧
      u.slots[i].y = s.slots[i].y + (o.dy1.signExtend 16 + q.dy1.signExtend 16)

/-- `FOC_UNK` changes no register, whatever the kind, and gives one resync frame (R211, R219). -/
def Obligations.FocUnkChangesNothingAndResyncs : Prop :=
  ∀ (k : BitVec 4) (s : State),
    exec (.focUnk k) s = .next { s with
      out := ⟨true, some (focFrame s.slots s.focalPressed), .focUnknownKind⟩ }

/-- After any FOCAL packet, an unknown-kind packet repeats the frame it gave and leaves every register
as it was (R219, R237). -/
def Obligations.UnknownKindRepeatsThePreviousFrame : Prop :=
  ∀ (i : Instr) (k : BitVec 4) (s t u : State), contextOf i = some (.focal, none) →
    exec i s = .next t → exec (.focUnk k) t = .next u →
    u.out.frame = t.out.frame ∧ u = { t with out := u.out }

/-! ### Host operations (R250 to R256) and the frame's call view (R238) -/

/-- INIT on a block that is not live loads the configuration, gives every data register its reset value
and makes the session live, with no frame and outcome NONE (R250, R45, R290; the reset
values are decision D29; the parameter and the events to come are the model's fields, log 5 and log 1). -/
def Obligations.InitResetsTheBlock : Prop :=
  ∀ (c : SessionConfig) (s : State), s.sessionLive = false →
    exec (.init c) s = .next {
      sessionLive := true
      cfg := c
      buf := ⟨0, 0, 0, 0, 0, 0⟩
      accCount := 0
      streak := 0
      pendValid := false
      pend := ⟨0, 0, 0, 0, 0, 0⟩
      slots := Vector.replicate 5 ⟨false, false, 0, 0⟩
      focalPressed := false
      focalYHiMask := s.focalYHiMask
      input := s.input
      out := ⟨false, none, .none⟩ }

/-- DISCONNECT ends the session and does nothing else: no frame, no flush (R252). -/
def Obligations.DisconnectDropsEverythingSilently : Prop :=
  ∀ s : State, s.sessionLive = true →
    exec .disconnect s = .next { s with sessionLive := false, out := ⟨false, none, .none⟩ }

/-- SET_PARITYCHECK writes one control register of a live session, at any `acc_count`, with no frame
(R253; when it takes effect is decision D33). -/
def Obligations.SetParitycheckWritesOneFlag : Prop :=
  ∀ (v : Bool) (s : State), s.sessionLive = true →
    exec (.setParitycheck v) s = .next { s with
      cfg := { s.cfg with paritycheck := v }, out := ⟨false, none, .none⟩ }

/-- SET_DEBUG writes one control register of a live session, with no frame (R254). -/
def Obligations.SetDebugWritesOneFlag : Prop :=
  ∀ (v : Bool) (s : State), s.sessionLive = true →
    exec (.setDebug v) s = .next { s with
      cfg := { s.cfg with debug := v }, out := ⟨false, none, .none⟩ }

/-- Outside their session the operations have no step (R251, R255; decision D32). -/
def Obligations.OperationsOutsideTheirSessionAreRefused : Prop :=
  ∀ s : State,
    (s.sessionLive = false →
      (∀ b, exec (.feed b) s = .refused .sessionNotLive) ∧
      exec .disconnect s = .refused .sessionNotLive ∧
      (∀ v, exec (.setParitycheck v) s = .refused .sessionNotLive) ∧
      (∀ v, exec (.setDebug v) s = .refused .sessionNotLive)) ∧
    (s.sessionLive = true → ∀ c, exec (.init c) s = .refused .sessionLive)

/-- Nothing of a session survives DISCONNECT followed by INIT: two sessions, whatever their registers,
end in the same state (R293; the parameter and the events to come are the model's fields, log 5 and
log 1). -/
def Obligations.NothingSurvivesDisconnectThenInit : Prop :=
  ∀ (c : SessionConfig) (s₁ s₂ : State), s₁.sessionLive = true → s₂.sessionLive = true →
    s₁.focalYHiMask = s₂.focalYHiMask → s₁.input = s₂.input →
    ∃ u₁ u₂ v, exec .disconnect s₁ = .next u₁ ∧ exec .disconnect s₂ = .next u₂ ∧
      exec (.init c) u₁ = .next v ∧ exec (.init c) u₂ = .next v

/-- The calls that describe a frame end in `sync()`, which stands nowhere else among them, and hold one
`report_slot` for each slot report, in order; a step without a frame makes no call (R238; the order of
the calls is decision D31, absent positions log 14). -/
def Obligations.SinkCallsEndInOneSync : Prop :=
  (∀ f : Frame, ∃ cs, frameCalls f = cs ++ [.sync] ∧ SinkCall.sync ∉ cs ∧
    cs.filterMap SinkCall.slotReport = f.slots) ∧
  (∀ r : StepResult, r.frame = none → stepCalls r = [])

/-! ### Index spaces (R60, R72) -/

/-- A read of an index space is defined exactly on its legal indices: BUF 0..5, or 0..3 under V1; PEND
0..5; SLOT 0..4, or 0..1 under V2 and V3; PARITY 0..255; CFG 0..9 (R60; the names and numbers of the
spaces are decision D3). -/
def Obligations.ReadsAreDefinedExactlyOnLegalIndices : Prop :=
  ∀ (s : State) (sp : Space) (k : Nat),
    (readUnit s sp k).isSome = true ↔
      k < match sp with
        | .buf => if s.cfg.hwVersion = .v1 then 4 else 6
        | .pend => 6
        | .slot => if s.cfg.hwVersion = .v2 ∨ s.cfg.hwVersion = .v3 then 2 else 5
        | .parity => 256
        | .cfg => 10

/-- A write of one unit is read back, a control register cut to its width, which is 2, 24, 16, 16, 16, 1,
1, 1, 1, 1 bits by index; it leaves every other unit of every space as it was, and every register outside
the spaces; the ROM cannot be written (R40, R60, R72; widths R21 to R30; the numbers of the control
registers are decision D3, that a number is cut to the width is log 15). -/
def Obligations.AWrittenUnitIsReadBackAndOthersAreKept : Prop :=
  ∀ (s t : State) (sp : Space) (k : Nat) (v : StorageUnit), writeUnit s sp k v = some t →
    sp ≠ .parity ∧ (sp ≠ .cfg → readUnit t sp k = some v) ∧
    (sp = .cfg → ∃ n w, v = .reg n ∧ [2, 24, 16, 16, 16, 1, 1, 1, 1, 1][k]? = some w ∧
      readUnit t .cfg k = some (.reg (n % 2 ^ w))) ∧
    (∀ (sp' : Space) (k' : Nat), ¬ (sp' = sp ∧ k' = k) → unitAt t sp' k' = unitAt s sp' k') ∧
    t = { s with buf := t.buf, pend := t.pend, slots := t.slots, cfg := t.cfg }
end

