-- ==== Sys2Proof/Laws/Decode.lean ====
section
/-! SUPPORT. The small lemmas of the decoder and the encoder. -/

namespace Sys2Proof

/-- Each bit of a byte written by columns. -/
theorem byteOfBits_getLsbD (b7 b6 b5 b4 b3 b2 b1 b0 : Bool) (i : Nat) :
    (byteOfBits b7 b6 b5 b4 b3 b2 b1 b0).getLsbD i =
      match i with
      | 0 => b0
      | 1 => b1
      | 2 => b2
      | 3 => b3
      | 4 => b4
      | 5 => b5
      | 6 => b6
      | 7 => b7
      | _ => false := by
  match i with
  | 0 | 1 | 2 | 3 | 4 | 5 | 6 | 7 => revert b7 b6 b5 b4 b3 b2 b1 b0; decide
  | n + 8 => simp

/-- Each bit of the low byte of a field. -/
theorem lowByte_getLsbD {n : Nat} (v : BitVec n) (i : Nat) :
    (lowByte v).getLsbD i = (decide (i < 8) && v.getLsbD i) := by
  simp [lowByte]

/-- The decoder of a packet always gives a packet operation. -/
theorem decodePacket_isPacketOp (hw : HwVersion) (era : Era) (p : Packet) :
    (decodePacket hw era p).isPacketOp = true := by
  cases hw
  · cases era <;> rfl
  · simp only [decodePacket, decodeV2]; split_ifs <;> rfl
  · simp only [decodePacket, decodeV3]; split_ifs <;> rfl
  · simp only [decodePacket, decodeFocal]; split_ifs <;> rfl

/-- Under V1 only the first four bytes of a packet reach the decoder. -/
theorem decodePacket_v1_bytes (era : Era) (p : Packet) :
    decodePacket .v1 era { p with b4 := 0, b5 := 0 } = decodePacket .v1 era p := by
  cases era <;> rfl

/-- Taking a packet from its own bytes gives it back, with the bytes that follow. -/
theorem takePacket_packetBytes (hw : HwVersion) (p : Packet) (rest : List Byte) :
    takePacket hw (packetBytes hw p ++ rest) =
      some (if hw = .v1 then { p with b4 := 0, b5 := 0 } else p, rest) := by
  cases hw <;> rfl

/-- Decoding the bytes of a packet decodes the packet, and leaves the bytes that follow. -/
theorem decodeBytes_packetBytes (hw : HwVersion) (era : Era) (p : Packet) (rest : List Byte) :
    decodeBytes hw era (packetBytes hw p ++ rest) = .ok (decodePacket hw era p, rest) := by
  simp only [decodeBytes, takePacket_packetBytes]
  cases hw <;> rfl

/-- The encoding of a packet operation is the bytes of its canonical packet. -/
theorem encode_of_context {i : Instr} {hw : HwVersion} {oe : Option Era}
    (h : contextOf i = some (hw, oe)) :
    ∃ p, encodePacket i = some p ∧ encode i = (packetBytes hw p).map Event.byte := by
  cases i <;> first | (cases h; exact ⟨_, rfl, rfl⟩) | cases h

/-- A packet of a variant has `S` bytes. -/
theorem packetBytes_length (hw : HwVersion) (p : Packet) :
    (packetBytes hw p).length = packetSize hw := by
  cases hw <;> rfl

end Sys2Proof
end

