-- ==== Sys2Proof/Laws/State.lean ====
section
/-! SUPPORT. What each named update of the state leaves in each register: one lemma a register, so that
no proof unfolds an update. -/

namespace Sys2Proof.Machine

/-! ### `withLive` -/

@[simp] theorem State.withLive_sessionLive (s : State) (v : Bool) :
    (s.withLive v).sessionLive = v := rfl

@[simp] theorem State.withLive_cfg (s : State) (v : Bool) :
    (s.withLive v).cfg = s.cfg := rfl

@[simp] theorem State.withLive_buf (s : State) (v : Bool) :
    (s.withLive v).buf = s.buf := rfl

@[simp] theorem State.withLive_accCount (s : State) (v : Bool) :
    (s.withLive v).accCount = s.accCount := rfl

@[simp] theorem State.withLive_streak (s : State) (v : Bool) :
    (s.withLive v).streak = s.streak := rfl

@[simp] theorem State.withLive_pendValid (s : State) (v : Bool) :
    (s.withLive v).pendValid = s.pendValid := rfl

@[simp] theorem State.withLive_pend (s : State) (v : Bool) :
    (s.withLive v).pend = s.pend := rfl

@[simp] theorem State.withLive_slots (s : State) (v : Bool) :
    (s.withLive v).slots = s.slots := rfl

@[simp] theorem State.withLive_focalPressed (s : State) (v : Bool) :
    (s.withLive v).focalPressed = s.focalPressed := rfl

@[simp] theorem State.withLive_focalYHiMask (s : State) (v : Bool) :
    (s.withLive v).focalYHiMask = s.focalYHiMask := rfl

@[simp] theorem State.withLive_input (s : State) (v : Bool) :
    (s.withLive v).input = s.input := rfl

@[simp] theorem State.withLive_out (s : State) (v : Bool) :
    (s.withLive v).out = s.out := rfl

/-! ### `withCfg` -/

@[simp] theorem State.withCfg_sessionLive (s : State) (c : SessionConfig) :
    (s.withCfg c).sessionLive = s.sessionLive := rfl

@[simp] theorem State.withCfg_cfg (s : State) (c : SessionConfig) :
    (s.withCfg c).cfg = c := rfl

@[simp] theorem State.withCfg_buf (s : State) (c : SessionConfig) :
    (s.withCfg c).buf = s.buf := rfl

@[simp] theorem State.withCfg_accCount (s : State) (c : SessionConfig) :
    (s.withCfg c).accCount = s.accCount := rfl

@[simp] theorem State.withCfg_streak (s : State) (c : SessionConfig) :
    (s.withCfg c).streak = s.streak := rfl

@[simp] theorem State.withCfg_pendValid (s : State) (c : SessionConfig) :
    (s.withCfg c).pendValid = s.pendValid := rfl

@[simp] theorem State.withCfg_pend (s : State) (c : SessionConfig) :
    (s.withCfg c).pend = s.pend := rfl

@[simp] theorem State.withCfg_slots (s : State) (c : SessionConfig) :
    (s.withCfg c).slots = s.slots := rfl

@[simp] theorem State.withCfg_focalPressed (s : State) (c : SessionConfig) :
    (s.withCfg c).focalPressed = s.focalPressed := rfl

@[simp] theorem State.withCfg_focalYHiMask (s : State) (c : SessionConfig) :
    (s.withCfg c).focalYHiMask = s.focalYHiMask := rfl

@[simp] theorem State.withCfg_input (s : State) (c : SessionConfig) :
    (s.withCfg c).input = s.input := rfl

@[simp] theorem State.withCfg_out (s : State) (c : SessionConfig) :
    (s.withCfg c).out = s.out := rfl

/-! ### `withBuf` -/

@[simp] theorem State.withBuf_sessionLive (s : State) (p : Packet) :
    (s.withBuf p).sessionLive = s.sessionLive := rfl

@[simp] theorem State.withBuf_cfg (s : State) (p : Packet) :
    (s.withBuf p).cfg = s.cfg := rfl

@[simp] theorem State.withBuf_buf (s : State) (p : Packet) :
    (s.withBuf p).buf = p := rfl

@[simp] theorem State.withBuf_accCount (s : State) (p : Packet) :
    (s.withBuf p).accCount = s.accCount := rfl

@[simp] theorem State.withBuf_streak (s : State) (p : Packet) :
    (s.withBuf p).streak = s.streak := rfl

@[simp] theorem State.withBuf_pendValid (s : State) (p : Packet) :
    (s.withBuf p).pendValid = s.pendValid := rfl

@[simp] theorem State.withBuf_pend (s : State) (p : Packet) :
    (s.withBuf p).pend = s.pend := rfl

@[simp] theorem State.withBuf_slots (s : State) (p : Packet) :
    (s.withBuf p).slots = s.slots := rfl

@[simp] theorem State.withBuf_focalPressed (s : State) (p : Packet) :
    (s.withBuf p).focalPressed = s.focalPressed := rfl

@[simp] theorem State.withBuf_focalYHiMask (s : State) (p : Packet) :
    (s.withBuf p).focalYHiMask = s.focalYHiMask := rfl

@[simp] theorem State.withBuf_input (s : State) (p : Packet) :
    (s.withBuf p).input = s.input := rfl

@[simp] theorem State.withBuf_out (s : State) (p : Packet) :
    (s.withBuf p).out = s.out := rfl

/-! ### `withAcc` -/

@[simp] theorem State.withAcc_sessionLive (s : State) (n : BitVec 3) :
    (s.withAcc n).sessionLive = s.sessionLive := rfl

@[simp] theorem State.withAcc_cfg (s : State) (n : BitVec 3) :
    (s.withAcc n).cfg = s.cfg := rfl

@[simp] theorem State.withAcc_buf (s : State) (n : BitVec 3) :
    (s.withAcc n).buf = s.buf := rfl

@[simp] theorem State.withAcc_accCount (s : State) (n : BitVec 3) :
    (s.withAcc n).accCount = n := rfl

@[simp] theorem State.withAcc_streak (s : State) (n : BitVec 3) :
    (s.withAcc n).streak = s.streak := rfl

@[simp] theorem State.withAcc_pendValid (s : State) (n : BitVec 3) :
    (s.withAcc n).pendValid = s.pendValid := rfl

@[simp] theorem State.withAcc_pend (s : State) (n : BitVec 3) :
    (s.withAcc n).pend = s.pend := rfl

@[simp] theorem State.withAcc_slots (s : State) (n : BitVec 3) :
    (s.withAcc n).slots = s.slots := rfl

@[simp] theorem State.withAcc_focalPressed (s : State) (n : BitVec 3) :
    (s.withAcc n).focalPressed = s.focalPressed := rfl

@[simp] theorem State.withAcc_focalYHiMask (s : State) (n : BitVec 3) :
    (s.withAcc n).focalYHiMask = s.focalYHiMask := rfl

@[simp] theorem State.withAcc_input (s : State) (n : BitVec 3) :
    (s.withAcc n).input = s.input := rfl

@[simp] theorem State.withAcc_out (s : State) (n : BitVec 3) :
    (s.withAcc n).out = s.out := rfl

/-! ### `withStreak` -/

@[simp] theorem State.withStreak_sessionLive (s : State) (k : BitVec 2) :
    (s.withStreak k).sessionLive = s.sessionLive := rfl

@[simp] theorem State.withStreak_cfg (s : State) (k : BitVec 2) :
    (s.withStreak k).cfg = s.cfg := rfl

@[simp] theorem State.withStreak_buf (s : State) (k : BitVec 2) :
    (s.withStreak k).buf = s.buf := rfl

@[simp] theorem State.withStreak_accCount (s : State) (k : BitVec 2) :
    (s.withStreak k).accCount = s.accCount := rfl

@[simp] theorem State.withStreak_streak (s : State) (k : BitVec 2) :
    (s.withStreak k).streak = k := rfl

@[simp] theorem State.withStreak_pendValid (s : State) (k : BitVec 2) :
    (s.withStreak k).pendValid = s.pendValid := rfl

@[simp] theorem State.withStreak_pend (s : State) (k : BitVec 2) :
    (s.withStreak k).pend = s.pend := rfl

@[simp] theorem State.withStreak_slots (s : State) (k : BitVec 2) :
    (s.withStreak k).slots = s.slots := rfl

@[simp] theorem State.withStreak_focalPressed (s : State) (k : BitVec 2) :
    (s.withStreak k).focalPressed = s.focalPressed := rfl

@[simp] theorem State.withStreak_focalYHiMask (s : State) (k : BitVec 2) :
    (s.withStreak k).focalYHiMask = s.focalYHiMask := rfl

@[simp] theorem State.withStreak_input (s : State) (k : BitVec 2) :
    (s.withStreak k).input = s.input := rfl

@[simp] theorem State.withStreak_out (s : State) (k : BitVec 2) :
    (s.withStreak k).out = s.out := rfl

/-! ### `storePend` -/

@[simp] theorem State.storePend_sessionLive (s : State) (p : Packet) :
    (s.storePend p).sessionLive = s.sessionLive := rfl

@[simp] theorem State.storePend_cfg (s : State) (p : Packet) :
    (s.storePend p).cfg = s.cfg := rfl

@[simp] theorem State.storePend_buf (s : State) (p : Packet) :
    (s.storePend p).buf = s.buf := rfl

@[simp] theorem State.storePend_accCount (s : State) (p : Packet) :
    (s.storePend p).accCount = s.accCount := rfl

@[simp] theorem State.storePend_streak (s : State) (p : Packet) :
    (s.storePend p).streak = s.streak := rfl

@[simp] theorem State.storePend_pendValid (s : State) (p : Packet) :
    (s.storePend p).pendValid = true := rfl

@[simp] theorem State.storePend_pend (s : State) (p : Packet) :
    (s.storePend p).pend = p := rfl

@[simp] theorem State.storePend_slots (s : State) (p : Packet) :
    (s.storePend p).slots = s.slots := rfl

@[simp] theorem State.storePend_focalPressed (s : State) (p : Packet) :
    (s.storePend p).focalPressed = s.focalPressed := rfl

@[simp] theorem State.storePend_focalYHiMask (s : State) (p : Packet) :
    (s.storePend p).focalYHiMask = s.focalYHiMask := rfl

@[simp] theorem State.storePend_input (s : State) (p : Packet) :
    (s.storePend p).input = s.input := rfl

@[simp] theorem State.storePend_out (s : State) (p : Packet) :
    (s.storePend p).out = s.out := rfl

/-! ### `clearPend` -/

@[simp] theorem State.clearPend_sessionLive (s : State) :
    (s.clearPend).sessionLive = s.sessionLive := rfl

@[simp] theorem State.clearPend_cfg (s : State) :
    (s.clearPend).cfg = s.cfg := rfl

@[simp] theorem State.clearPend_buf (s : State) :
    (s.clearPend).buf = s.buf := rfl

@[simp] theorem State.clearPend_accCount (s : State) :
    (s.clearPend).accCount = s.accCount := rfl

@[simp] theorem State.clearPend_streak (s : State) :
    (s.clearPend).streak = s.streak := rfl

@[simp] theorem State.clearPend_pendValid (s : State) :
    (s.clearPend).pendValid = false := rfl

@[simp] theorem State.clearPend_pend (s : State) :
    (s.clearPend).pend = s.pend := rfl

@[simp] theorem State.clearPend_slots (s : State) :
    (s.clearPend).slots = s.slots := rfl

@[simp] theorem State.clearPend_focalPressed (s : State) :
    (s.clearPend).focalPressed = s.focalPressed := rfl

@[simp] theorem State.clearPend_focalYHiMask (s : State) :
    (s.clearPend).focalYHiMask = s.focalYHiMask := rfl

@[simp] theorem State.clearPend_input (s : State) :
    (s.clearPend).input = s.input := rfl

@[simp] theorem State.clearPend_out (s : State) :
    (s.clearPend).out = s.out := rfl

/-! ### `withSlots` -/

@[simp] theorem State.withSlots_sessionLive (s : State) (v : Vector Slot 5) :
    (s.withSlots v).sessionLive = s.sessionLive := rfl

@[simp] theorem State.withSlots_cfg (s : State) (v : Vector Slot 5) :
    (s.withSlots v).cfg = s.cfg := rfl

@[simp] theorem State.withSlots_buf (s : State) (v : Vector Slot 5) :
    (s.withSlots v).buf = s.buf := rfl

@[simp] theorem State.withSlots_accCount (s : State) (v : Vector Slot 5) :
    (s.withSlots v).accCount = s.accCount := rfl

@[simp] theorem State.withSlots_streak (s : State) (v : Vector Slot 5) :
    (s.withSlots v).streak = s.streak := rfl

@[simp] theorem State.withSlots_pendValid (s : State) (v : Vector Slot 5) :
    (s.withSlots v).pendValid = s.pendValid := rfl

@[simp] theorem State.withSlots_pend (s : State) (v : Vector Slot 5) :
    (s.withSlots v).pend = s.pend := rfl

@[simp] theorem State.withSlots_slots (s : State) (v : Vector Slot 5) :
    (s.withSlots v).slots = v := rfl

@[simp] theorem State.withSlots_focalPressed (s : State) (v : Vector Slot 5) :
    (s.withSlots v).focalPressed = s.focalPressed := rfl

@[simp] theorem State.withSlots_focalYHiMask (s : State) (v : Vector Slot 5) :
    (s.withSlots v).focalYHiMask = s.focalYHiMask := rfl

@[simp] theorem State.withSlots_input (s : State) (v : Vector Slot 5) :
    (s.withSlots v).input = s.input := rfl

@[simp] theorem State.withSlots_out (s : State) (v : Vector Slot 5) :
    (s.withSlots v).out = s.out := rfl

/-! ### `withPressed` -/

@[simp] theorem State.withPressed_sessionLive (s : State) (v : Bool) :
    (s.withPressed v).sessionLive = s.sessionLive := rfl

@[simp] theorem State.withPressed_cfg (s : State) (v : Bool) :
    (s.withPressed v).cfg = s.cfg := rfl

@[simp] theorem State.withPressed_buf (s : State) (v : Bool) :
    (s.withPressed v).buf = s.buf := rfl

@[simp] theorem State.withPressed_accCount (s : State) (v : Bool) :
    (s.withPressed v).accCount = s.accCount := rfl

@[simp] theorem State.withPressed_streak (s : State) (v : Bool) :
    (s.withPressed v).streak = s.streak := rfl

@[simp] theorem State.withPressed_pendValid (s : State) (v : Bool) :
    (s.withPressed v).pendValid = s.pendValid := rfl

@[simp] theorem State.withPressed_pend (s : State) (v : Bool) :
    (s.withPressed v).pend = s.pend := rfl

@[simp] theorem State.withPressed_slots (s : State) (v : Bool) :
    (s.withPressed v).slots = s.slots := rfl

@[simp] theorem State.withPressed_focalPressed (s : State) (v : Bool) :
    (s.withPressed v).focalPressed = v := rfl

@[simp] theorem State.withPressed_focalYHiMask (s : State) (v : Bool) :
    (s.withPressed v).focalYHiMask = s.focalYHiMask := rfl

@[simp] theorem State.withPressed_input (s : State) (v : Bool) :
    (s.withPressed v).input = s.input := rfl

@[simp] theorem State.withPressed_out (s : State) (v : Bool) :
    (s.withPressed v).out = s.out := rfl

/-! ### `withInput` -/

@[simp] theorem State.withInput_sessionLive (s : State) (es : List Event) :
    (s.withInput es).sessionLive = s.sessionLive := rfl

@[simp] theorem State.withInput_cfg (s : State) (es : List Event) :
    (s.withInput es).cfg = s.cfg := rfl

@[simp] theorem State.withInput_buf (s : State) (es : List Event) :
    (s.withInput es).buf = s.buf := rfl

@[simp] theorem State.withInput_accCount (s : State) (es : List Event) :
    (s.withInput es).accCount = s.accCount := rfl

@[simp] theorem State.withInput_streak (s : State) (es : List Event) :
    (s.withInput es).streak = s.streak := rfl

@[simp] theorem State.withInput_pendValid (s : State) (es : List Event) :
    (s.withInput es).pendValid = s.pendValid := rfl

@[simp] theorem State.withInput_pend (s : State) (es : List Event) :
    (s.withInput es).pend = s.pend := rfl

@[simp] theorem State.withInput_slots (s : State) (es : List Event) :
    (s.withInput es).slots = s.slots := rfl

@[simp] theorem State.withInput_focalPressed (s : State) (es : List Event) :
    (s.withInput es).focalPressed = s.focalPressed := rfl

@[simp] theorem State.withInput_focalYHiMask (s : State) (es : List Event) :
    (s.withInput es).focalYHiMask = s.focalYHiMask := rfl

@[simp] theorem State.withInput_input (s : State) (es : List Event) :
    (s.withInput es).input = es := rfl

@[simp] theorem State.withInput_out (s : State) (es : List Event) :
    (s.withInput es).out = s.out := rfl

/-! ### `withOut` -/

@[simp] theorem State.withOut_sessionLive (s : State) (r : StepResult) :
    (s.withOut r).sessionLive = s.sessionLive := rfl

@[simp] theorem State.withOut_cfg (s : State) (r : StepResult) :
    (s.withOut r).cfg = s.cfg := rfl

@[simp] theorem State.withOut_buf (s : State) (r : StepResult) :
    (s.withOut r).buf = s.buf := rfl

@[simp] theorem State.withOut_accCount (s : State) (r : StepResult) :
    (s.withOut r).accCount = s.accCount := rfl

@[simp] theorem State.withOut_streak (s : State) (r : StepResult) :
    (s.withOut r).streak = s.streak := rfl

@[simp] theorem State.withOut_pendValid (s : State) (r : StepResult) :
    (s.withOut r).pendValid = s.pendValid := rfl

@[simp] theorem State.withOut_pend (s : State) (r : StepResult) :
    (s.withOut r).pend = s.pend := rfl

@[simp] theorem State.withOut_slots (s : State) (r : StepResult) :
    (s.withOut r).slots = s.slots := rfl

@[simp] theorem State.withOut_focalPressed (s : State) (r : StepResult) :
    (s.withOut r).focalPressed = s.focalPressed := rfl

@[simp] theorem State.withOut_focalYHiMask (s : State) (r : StepResult) :
    (s.withOut r).focalYHiMask = s.focalYHiMask := rfl

@[simp] theorem State.withOut_input (s : State) (r : StepResult) :
    (s.withOut r).input = s.input := rfl

@[simp] theorem State.withOut_out (s : State) (r : StepResult) :
    (s.withOut r).out = r := rfl

/-! ### `quiet` -/

@[simp] theorem State.quiet_sessionLive (s : State) :
    (s.quiet).sessionLive = s.sessionLive := rfl

@[simp] theorem State.quiet_cfg (s : State) :
    (s.quiet).cfg = s.cfg := rfl

@[simp] theorem State.quiet_buf (s : State) :
    (s.quiet).buf = s.buf := rfl

@[simp] theorem State.quiet_accCount (s : State) :
    (s.quiet).accCount = s.accCount := rfl

@[simp] theorem State.quiet_streak (s : State) :
    (s.quiet).streak = s.streak := rfl

@[simp] theorem State.quiet_pendValid (s : State) :
    (s.quiet).pendValid = s.pendValid := rfl

@[simp] theorem State.quiet_pend (s : State) :
    (s.quiet).pend = s.pend := rfl

@[simp] theorem State.quiet_slots (s : State) :
    (s.quiet).slots = s.slots := rfl

@[simp] theorem State.quiet_focalPressed (s : State) :
    (s.quiet).focalPressed = s.focalPressed := rfl

@[simp] theorem State.quiet_focalYHiMask (s : State) :
    (s.quiet).focalYHiMask = s.focalYHiMask := rfl

@[simp] theorem State.quiet_input (s : State) :
    (s.quiet).input = s.input := rfl

@[simp] theorem State.quiet_out (s : State) :
    (s.quiet).out = StepResult.idle := rfl

/-! ### `emitFrame` -/

@[simp] theorem emitFrame_sessionLive (f : Frame) (oc : OutcomeCode) (s : State) :
    (emitFrame f oc s).sessionLive = s.sessionLive := rfl

@[simp] theorem emitFrame_cfg (f : Frame) (oc : OutcomeCode) (s : State) :
    (emitFrame f oc s).cfg = s.cfg := rfl

@[simp] theorem emitFrame_buf (f : Frame) (oc : OutcomeCode) (s : State) :
    (emitFrame f oc s).buf = s.buf := rfl

@[simp] theorem emitFrame_accCount (f : Frame) (oc : OutcomeCode) (s : State) :
    (emitFrame f oc s).accCount = s.accCount := rfl

@[simp] theorem emitFrame_streak (f : Frame) (oc : OutcomeCode) (s : State) :
    (emitFrame f oc s).streak = s.streak := rfl

@[simp] theorem emitFrame_pendValid (f : Frame) (oc : OutcomeCode) (s : State) :
    (emitFrame f oc s).pendValid = s.pendValid := rfl

@[simp] theorem emitFrame_pend (f : Frame) (oc : OutcomeCode) (s : State) :
    (emitFrame f oc s).pend = s.pend := rfl

@[simp] theorem emitFrame_slots (f : Frame) (oc : OutcomeCode) (s : State) :
    (emitFrame f oc s).slots = s.slots := rfl

@[simp] theorem emitFrame_focalPressed (f : Frame) (oc : OutcomeCode) (s : State) :
    (emitFrame f oc s).focalPressed = s.focalPressed := rfl

@[simp] theorem emitFrame_focalYHiMask (f : Frame) (oc : OutcomeCode) (s : State) :
    (emitFrame f oc s).focalYHiMask = s.focalYHiMask := rfl

@[simp] theorem emitFrame_input (f : Frame) (oc : OutcomeCode) (s : State) :
    (emitFrame f oc s).input = s.input := rfl

@[simp] theorem emitFrame_out (f : Frame) (oc : OutcomeCode) (s : State) :
    (emitFrame f oc s).out = ⟨true, some f, oc⟩ := rfl

/-! ### `raiseOutcome` -/

@[simp] theorem raiseOutcome_sessionLive (oc : OutcomeCode) (s : State) :
    (raiseOutcome oc s).sessionLive = s.sessionLive := rfl

@[simp] theorem raiseOutcome_cfg (oc : OutcomeCode) (s : State) :
    (raiseOutcome oc s).cfg = s.cfg := rfl

@[simp] theorem raiseOutcome_buf (oc : OutcomeCode) (s : State) :
    (raiseOutcome oc s).buf = s.buf := rfl

@[simp] theorem raiseOutcome_accCount (oc : OutcomeCode) (s : State) :
    (raiseOutcome oc s).accCount = s.accCount := rfl

@[simp] theorem raiseOutcome_streak (oc : OutcomeCode) (s : State) :
    (raiseOutcome oc s).streak = s.streak := rfl

@[simp] theorem raiseOutcome_pendValid (oc : OutcomeCode) (s : State) :
    (raiseOutcome oc s).pendValid = s.pendValid := rfl

@[simp] theorem raiseOutcome_pend (oc : OutcomeCode) (s : State) :
    (raiseOutcome oc s).pend = s.pend := rfl

@[simp] theorem raiseOutcome_slots (oc : OutcomeCode) (s : State) :
    (raiseOutcome oc s).slots = s.slots := rfl

@[simp] theorem raiseOutcome_focalPressed (oc : OutcomeCode) (s : State) :
    (raiseOutcome oc s).focalPressed = s.focalPressed := rfl

@[simp] theorem raiseOutcome_focalYHiMask (oc : OutcomeCode) (s : State) :
    (raiseOutcome oc s).focalYHiMask = s.focalYHiMask := rfl

@[simp] theorem raiseOutcome_input (oc : OutcomeCode) (s : State) :
    (raiseOutcome oc s).input = s.input := rfl

@[simp] theorem raiseOutcome_out (oc : OutcomeCode) (s : State) :
    (raiseOutcome oc s).out = ⟨true, none, oc⟩ := rfl

/-! ### `focResync` -/

@[simp] theorem focResync_sessionLive (oc : OutcomeCode) (s : State) :
    (focResync oc s).sessionLive = s.sessionLive := rfl

@[simp] theorem focResync_cfg (oc : OutcomeCode) (s : State) :
    (focResync oc s).cfg = s.cfg := rfl

@[simp] theorem focResync_buf (oc : OutcomeCode) (s : State) :
    (focResync oc s).buf = s.buf := rfl

@[simp] theorem focResync_accCount (oc : OutcomeCode) (s : State) :
    (focResync oc s).accCount = s.accCount := rfl

@[simp] theorem focResync_streak (oc : OutcomeCode) (s : State) :
    (focResync oc s).streak = s.streak := rfl

@[simp] theorem focResync_pendValid (oc : OutcomeCode) (s : State) :
    (focResync oc s).pendValid = s.pendValid := rfl

@[simp] theorem focResync_pend (oc : OutcomeCode) (s : State) :
    (focResync oc s).pend = s.pend := rfl

@[simp] theorem focResync_slots (oc : OutcomeCode) (s : State) :
    (focResync oc s).slots = s.slots := rfl

@[simp] theorem focResync_focalPressed (oc : OutcomeCode) (s : State) :
    (focResync oc s).focalPressed = s.focalPressed := rfl

@[simp] theorem focResync_focalYHiMask (oc : OutcomeCode) (s : State) :
    (focResync oc s).focalYHiMask = s.focalYHiMask := rfl

@[simp] theorem focResync_input (oc : OutcomeCode) (s : State) :
    (focResync oc s).input = s.input := rfl

@[simp] theorem focResync_out (oc : OutcomeCode) (s : State) :
    (focResync oc s).out = ⟨true, some (focFrame s.slots s.focalPressed), oc⟩ := rfl

end Sys2Proof.Machine
end

