-- ==== Sys2Proof/Laws/Ops.lean ====
section
/-! SUPPORT. What each shared operation can do, said once: storage by index, the slot file, running a
packet operation, the dispatch and FEED. -/

namespace Sys2Proof.Machine

/-! ### Storage by index -/

/-- A packet has a byte 0 to 5, and no other. -/
theorem packetSet_of_lt (p : Packet) {k : Nat} (b : Byte) (h : k < 6) :
    ∃ q, packetSet p k b = some q := by
  match k, h with
  | 0, _ | 1, _ | 2, _ | 3, _ | 4, _ | 5, _ => exact ⟨_, rfl⟩

/-- Reading a byte of a packet after writing it gives the byte written. -/
theorem packetGet_packetSet_same {p q : Packet} {k : Nat} {b : Byte} (h : packetSet p k b = some q) :
    packetGet q k = some b := by
  match k with
  | 0 | 1 | 2 | 3 | 4 | 5 => simp only [packetSet, Option.some.injEq] at h; subst h; rfl
  | n + 6 => simp [packetSet] at h

/-- No variant has packets of more than six bytes. -/
theorem packetSize_le (hw : HwVersion) : packetSize hw ≤ 6 := by
  cases hw <;> decide

/-- Storing at a legal index of BUF stores the byte and nothing else. -/
theorem writeBuf_of_lt (s : State) {k : Nat} (b : Byte) (h : k < packetSize s.cfg.hwVersion) :
    ∃ p, packetSet s.buf k b = some p ∧ writeBuf s k b = some (s.withBuf p) := by
  obtain ⟨p, hp⟩ := packetSet_of_lt s.buf b (Nat.lt_of_lt_of_le h (packetSize_le _))
  exact ⟨p, hp, by simp [writeBuf, h, hp]⟩

/-- Storing at an illegal index of BUF is not defined. -/
theorem writeBuf_of_not_lt (s : State) {k : Nat} (b : Byte)
    (h : ¬ k < packetSize s.cfg.hwVersion) : writeBuf s k b = none := by
  simp [writeBuf, h]

/-- What storing a byte of BUF can do. -/
theorem writeBuf_cases {s t : State} {k : Nat} {b : Byte} (h : writeBuf s k b = some t) :
    k < packetSize s.cfg.hwVersion ∧ ∃ p, packetSet s.buf k b = some p ∧ t = s.withBuf p := by
  by_cases hk : k < packetSize s.cfg.hwVersion
  · obtain ⟨p, hp, hw⟩ := writeBuf_of_lt s b hk
    rw [hw] at h
    exact ⟨hk, p, hp, (Option.some.inj h).symm⟩
  · rw [writeBuf_of_not_lt s b hk] at h
    cases h

/-! ### The slot file -/

/-- The written entry holds what was written. -/
theorem setSlot_getElem_self (v : Vector Slot 5) (i : Fin 5) (e : Slot) :
    (setSlot v i e)[i] = e := by
  simp [setSlot]

/-- The same, by the number of the slot. -/
@[simp] theorem setSlot_getElem_val_self (v : Vector Slot 5) (i : Fin 5) (e : Slot) :
    (setSlot v i e)[i.val] = e := setSlot_getElem_self v i e

/-- Every other entry is unchanged. -/
theorem setSlot_getElem_ne (v : Vector Slot 5) {i j : Fin 5} (e : Slot) (h : i ≠ j) :
    (setSlot v i e)[j] = v[j] := by
  have : i.val ≠ j.val := fun hv => h (Fin.ext hv)
  simp [setSlot, Vector.getElem_set_ne, this]

/-- A finger index names a slot exactly when it is 1 to 5 (R77). -/
theorem slotOfFinger_eq_some {k : Nat} {i : Fin 5} : slotOfFinger k = some i ↔ k = i.val + 1 := by
  unfold slotOfFinger
  split_ifs with h
  · simp only [Option.some.injEq, Fin.ext_iff]; omega
  · simp only [false_iff]; have := i.isLt; omega

/-! ### Packet operations, the dispatch and FEED -/

/-- Running a packet operation is `exec` of it. -/
theorem runPacket_eq_exec {i : Instr} (h : i.isPacketOp = true) (s : State) :
    runPacket i s = exec i s := by
  cases i <;> first | rfl | cases h

/-- A packet operation always answers a next state (R115). -/
theorem exec_packetOp_next {i : Instr} (h : i.isPacketOp = true) (s : State) :
    ∃ t, exec i s = .next t := by
  cases i <;> first
    | exact ⟨_, rfl⟩
    | (simp only [exec, execFocAbs]; split <;> exact ⟨_, rfl⟩)
    | exact absurd h Bool.false_ne_true

/-- The dispatch drops a V1 packet of wrong parity, and performs any other packet's operation. -/
theorem dispatch_cases (s : State) :
    (parityDrops s = true ∧ dispatch s = .next (raiseOutcome .v1ParityDrop s)) ∨
    (parityDrops s = false ∧
      dispatch s = exec (decodePacket s.cfg.hwVersion s.era s.buf) s) := by
  cases h : parityDrops s
  · exact .inr ⟨rfl, by
      simp [dispatch, h, runPacket_eq_exec (decodePacket_isPacketOp _ _ _)]⟩
  · exact .inl ⟨rfl, by simp [dispatch, h]⟩

/-- The dispatch always answers a next state. -/
theorem dispatch_next (s : State) : ∃ t, dispatch s = .next t := by
  obtain ⟨_, h⟩ | ⟨_, h⟩ := dispatch_cases s
  · exact ⟨_, h⟩
  · obtain ⟨t, ht⟩ := exec_packetOp_next (decodePacket_isPacketOp _ _ _) s
    exact ⟨t, h.trans ht⟩

/-- Everything FEED can do when a session is live and `acc_count` is legal: count the byte, or
dispatch the packet it completes. -/
theorem execFeed_of_legal {s : State} (b : Byte) (hl : s.sessionLive = true)
    (ha : s.accCount.toNat < packetSize s.cfg.hwVersion) :
    ∃ p, packetSet s.buf s.accCount.toNat b = some p ∧
      ((completes s = true ∧ execFeed b s = dispatch ((s.withBuf p).withAcc 0)) ∨
       (completes s = false ∧
          execFeed b s = .next ((s.withBuf p).withAcc (s.accCount + 1)).quiet)) := by
  obtain ⟨p, hp, hw⟩ := writeBuf_of_lt s b ha
  refine ⟨p, hp, ?_⟩
  cases hc : completes s
  · exact .inr ⟨rfl, by simp [execFeed, hl, hw, hc]⟩
  · exact .inl ⟨rfl, by simp [execFeed, hl, hw, hc]⟩

/-- Everything that led to a next state of FEED. -/
theorem execFeed_next {s t : State} {b : Byte} (h : execFeed b s = .next t) :
    s.sessionLive = true ∧ s.accCount.toNat < packetSize s.cfg.hwVersion ∧
    ∃ p, packetSet s.buf s.accCount.toNat b = some p ∧
      ((completes s = true ∧ dispatch ((s.withBuf p).withAcc 0) = .next t) ∨
       (completes s = false ∧ t = ((s.withBuf p).withAcc (s.accCount + 1)).quiet)) := by
  by_cases hl : s.sessionLive = true
  · by_cases ha : s.accCount.toNat < packetSize s.cfg.hwVersion
    · obtain ⟨p, hp, hcase⟩ := execFeed_of_legal b hl ha
      refine ⟨hl, ha, p, hp, ?_⟩
      rcases hcase with ⟨hc, he⟩ | ⟨hc, he⟩
      · exact .inl ⟨hc, by rw [← he, h]⟩
      · rw [he, Host.Outcome.next.injEq] at h
        exact .inr ⟨hc, h.symm⟩
    · simp [execFeed, hl, writeBuf_of_not_lt s b ha] at h
  · simp [execFeed, hl] at h

end Sys2Proof.Machine
end

