-- ==== Sys2Proof/Laws/Meanings.lean ====
section
/-! SUPPORT. Everything a packet operation can do, said once: the two ends of a V1 packet and of a V3
packet, the next state of each operation, and the registers that no packet operation touches. -/

namespace Sys2Proof.Machine

/-- A V1 packet is discarded and counted, or gives its frame (R150, R152). -/
theorem v1Packet_cases (fingers : Nat) (x y : BitVec 10) (left right : Bool)
    (forward back : Option Bool) (s : State) :
    (jumpyDiscards s.cfg.jumpyCursorWorkaround fingers s.streak = true ∧
      v1Packet fingers x y left right forward back s =
        raiseOutcome .v1JumpyDiscard
          (s.withStreak (nextStreak s.cfg.jumpyCursorWorkaround fingers s.streak))) ∨
    (jumpyDiscards s.cfg.jumpyCursorWorkaround fingers s.streak = false ∧
      v1Packet fingers x y left right forward back s =
        emitFrame (v1Frame fingers (v1Pos s.cfg.yMax x y) left right forward back) .frame
          (s.withStreak (nextStreak s.cfg.jumpyCursorWorkaround fingers s.streak))) := by
  cases h : jumpyDiscards s.cfg.jumpyCursorWorkaround fingers s.streak
  · exact .inr ⟨rfl, by simp [v1Packet, h]⟩
  · exact .inl ⟨rfl, by simp [v1Packet, h]⟩

/-- A V3 packet that is no HEAD is rejected, or gives its frame and writes the slots (R191, R196). -/
theorem v3Packet_cases (fingers : Nat) (positions : List Pos) (pressure : Byte) (width : BitVec 4)
    (left right : Bool) (oc : OutcomeCode) (s : State) :
    (positions.any (beyondBounds s.cfg) = true ∧
      v3Packet fingers positions pressure width left right oc s =
        raiseOutcome .v3BoundsReject s.clearPend) ∨
    (positions.any (beyondBounds s.cfg) = false ∧
      v3Packet fingers positions pressure width left right oc s =
        emitFrame
          (semiMtFrame s.cfg.reportsPressure fingers positions[0]? positions[1]? positions[0]?
            pressure (width.setWidth 8) left right)
          oc (s.clearPend.withSlots
            (semiMtSlots fingers positions[0]? positions[1]? s.slots))) := by
  cases h : positions.any (beyondBounds s.cfg)
  · exact .inr ⟨rfl, by simp [v3Packet, h]⟩
  · exact .inl ⟨rfl, by simp [v3Packet, h]⟩

/-- A packet operation touches only the registers of its decoder: the session, the accumulator, the
parameter and the events to come are as before. -/
structure SameSession (s t : State) : Prop where
  sessionLive : t.sessionLive = s.sessionLive
  cfg : t.cfg = s.cfg
  buf : t.buf = s.buf
  accCount : t.accCount = s.accCount
  focalYHiMask : t.focalYHiMask = s.focalYHiMask
  input : t.input = s.input

/-- `v1Packet` stays in its session. -/
theorem v1Packet_sameSession (fingers : Nat) (x y : BitVec 10) (left right : Bool)
    (forward back : Option Bool) (s : State) :
    SameSession s (v1Packet fingers x y left right forward back s) := by
  obtain ⟨_, h⟩ | ⟨_, h⟩ := v1Packet_cases fingers x y left right forward back s <;>
    rw [h] <;> exact ⟨rfl, rfl, rfl, rfl, rfl, rfl⟩

/-- `v3Packet` stays in its session. -/
theorem v3Packet_sameSession (fingers : Nat) (positions : List Pos) (pressure : Byte)
    (width : BitVec 4) (left right : Bool) (oc : OutcomeCode) (s : State) :
    SameSession s (v3Packet fingers positions pressure width left right oc s) := by
  obtain ⟨_, h⟩ | ⟨_, h⟩ := v3Packet_cases fingers positions pressure width left right oc s <;>
    rw [h] <;> exact ⟨rfl, rfl, rfl, rfl, rfl, rfl⟩

/-- `FOC_ABS` for a finger that names a slot, and for one that names none (R214, R215). -/
theorem execFocAbs_cases (o : FocAbsForm) (s : State) :
    (slotOfFinger o.fidx.toNat = none ∧
      execFocAbs o s = .next (focResync .focAbsBadFinger s)) ∨
    ∃ i, slotOfFinger o.fidx.toNat = some i ∧
      execFocAbs o s = .next (focResync .frame ((s.withPressed o.pressed).withSlots
        (setSlot s.slots i (absSlot s.focalYHiMask o s.slots[i])))) := by
  cases h : slotOfFinger o.fidx.toNat
  · exact .inl ⟨rfl, by simp [execFocAbs, h]⟩
  · exact .inr ⟨_, rfl, by simp [execFocAbs, h]⟩

/-- An operation with a V1 finger count is the V1 packet operation of that count, in either era. -/
theorem exec_of_v1Count {i : Instr} {n : Nat} (h : v1Count i = some n) (s : State) :
    ∃ x y left right forward back,
      exec i s = .next (v1Packet n x y left right forward back s) := by
  cases i <;> simp only [v1Count, Option.some.injEq, reduceCtorEq] at h <;> subst h <;>
    exact ⟨_, _, _, _, _, _, rfl⟩

/-- Every packet operation stays in its session. -/
theorem exec_packetOp_sameSession {i : Instr} (h : i.isPacketOp = true) {s t : State}
    (hn : exec i s = .next t) : SameSession s t := by
  cases i <;> simp only [exec] at hn
  case v1Old o => cases hn; exact v1Packet_sameSession ..
  case v1New o => cases hn; exact v1Packet_sameSession ..
  case v3F0 o => cases hn; exact v3Packet_sameSession ..
  case v3F1 o => cases hn; exact v3Packet_sameSession ..
  case v3F3 o => cases hn; exact v3Packet_sameSession ..
  case v3Tail o =>
    cases hn
    split
    · exact v3Packet_sameSession ..
    · exact v3Packet_sameSession ..
  case focAbs o =>
    obtain ⟨_, he⟩ | ⟨_, _, he⟩ := execFocAbs_cases o s <;>
      rw [he] at hn <;> cases hn <;> exact ⟨rfl, rfl, rfl, rfl, rfl, rfl⟩
  all_goals first
    | (cases hn; exact ⟨rfl, rfl, rfl, rfl, rfl, rfl⟩)
    | cases h

end Sys2Proof.Machine
end

