-- ==== Sys2Proof/Laws/PerInstr.lean ====
section
/-! SUPPORT. A statement about every instruction as syntax, one lemma a constructor: the encoding of an
instruction has as many port events as its context says (R90, R131): `S` bytes for a packet operation,
one event for FEED and the host operations. -/

namespace Sys2Proof.Laws.EncodedLength

/-- The number of port events that an instruction's context gives it. -/
def eventCount : Option (HwVersion × Option Era) → Nat
  | some (hw, _) => packetSize hw
  | none => 1

/-- The encoding of `i` has that many events. -/
def Statement (i : Instr) : Prop := (encode i).length = eventCount (contextOf i)

theorem v1Old (o : V1OldForm) : Statement (.v1Old o) := rfl

theorem v1New (o : V1NewForm) : Statement (.v1New o) := rfl

theorem v2F0 (o : V2NoneForm) : Statement (.v2F0 o) := rfl

theorem v2F1 (o : V2OneForm) : Statement (.v2F1 o) := rfl

theorem v2F2 (o : V2TwoForm) : Statement (.v2F2 o) := rfl

theorem v2F3 (o : V2OneForm) : Statement (.v2F3 o) := rfl

theorem v2F4 (o : V2OneForm) : Statement (.v2F4 o) := rfl

theorem v3F0 (o : V3NoneForm) : Statement (.v3F0 o) := rfl

theorem v3F1 (o : V3OneForm) : Statement (.v3F1 o) := rfl

theorem v3F3 (o : V3OneForm) : Statement (.v3F3 o) := rfl

theorem v3Head (p : Packet) : Statement (.v3Head p) := rfl

theorem v3Tail (o : V3TailForm) : Statement (.v3Tail o) := rfl

theorem focTouch (o : FocTouchForm) : Statement (.focTouch o) := rfl

theorem focAbs (o : FocAbsForm) : Statement (.focAbs o) := rfl

theorem focRel (o : FocRelForm) : Statement (.focRel o) := rfl

theorem focUnk (k : BitVec 4) : Statement (.focUnk k) := rfl

theorem feed (b : Byte) : Statement (.feed b) := rfl

theorem init (c : SessionConfig) : Statement (.init c) := rfl

theorem disconnect : Statement .disconnect := rfl

theorem setParitycheck (v : Bool) : Statement (.setParitycheck v) := rfl

theorem setDebug (v : Bool) : Statement (.setDebug v) := rfl

end Sys2Proof.Laws.EncodedLength
end

