-- ==== Sys2Proof/Tests/Slice0.lean ====
section
/-! SUPPORT. The model's own tests. Expected results are the vectors of spec/95_test_vectors.md (the
number of each stands in its comment) or hand calculation from the rules; the witnesses at the end
show, for every statement with hypotheses, operands and a state that meet all of them. -/

namespace Sys2Proof.Tests

open Sys2Proof Sys2Proof.Machine

/-! ### Small states -/

def v1New : SessionConfig :=
  { zeroConfig with hwVersion := .v1, firmwareVersion := 0x020000, yMax := 767, paritycheck := true }

def v1Old : SessionConfig :=
  { zeroConfig with
    hwVersion := .v1, firmwareVersion := 0x010000, yMax := 767, paritycheck := true, hasRocker := true }

def v2 : SessionConfig :=
  { zeroConfig with hwVersion := .v2, yMax := 767, yMax2ft := 383, reportsPressure := true }

def v3 : SessionConfig :=
  { zeroConfig with hwVersion := .v3, xMax := 3000, yMax := 2000, reportsPressure := true }

def focal : SessionConfig := { zeroConfig with hwVersion := .focal }

/-- A fresh session. -/
def live (c : SessionConfig) : State := { State.reset with sessionLive := true, cfg := c }

/-- A state in which the next step completes the packet `p`. -/
def onto (s : State) (p : Packet) : State :=
  { s with
    buf := p
    accCount := BitVec.ofNat 3 (packetSize s.cfg.hwVersion - 1)
    input := [.byte (lastByte s.cfg.hwVersion p)] }

/-- A fresh session about to complete the packet `p`. -/
def ready (c : SessionConfig) (p : Packet) : State := onto (live c) p

/-- The ports after the next step. -/
def ports (s : State) : Option StepResult :=
  match step s with
  | .next t => some t.out
  | .fault _ => none
  | .refused _ => none

/-- A view of the state after the next step. -/
def view {α : Type} (f : State → α) (s : State) : Option α :=
  match step s with
  | .next t => some (f t)
  | .fault _ => none
  | .refused _ => none

/-- FOCAL: slot 2 active and valid at (300, 100), as after S7.2. -/
def focalPlaced : State :=
  { live focal with slots := (live focal).slots.set 2 ⟨true, true, 300, 100⟩ }

/-! ### Ill-formed terms are refused (R98, R103) -/

theorem test_head_without_count_two_is_ill_formed :
    (Instr.v3Head ⟨0x44, 0, 0, 0, 0, 0⟩).wellFormed = false := by decide

theorem test_head_without_pattern_is_ill_formed :
    (Instr.v3Head ⟨0x80, 0, 0, 0, 0, 0⟩).wellFormed = false := by decide

theorem test_tail_with_head_pattern_is_ill_formed :
    (Instr.v3Tail ⟨false, false, 1, 0, 0, 0, 0⟩).wellFormed = false := by decide

theorem test_known_kinds_are_ill_formed_as_unknown :
    (Instr.focUnk 3).wellFormed = false ∧ (Instr.focUnk 6).wellFormed = false ∧
    (Instr.focUnk 9).wellFormed = false := by decide

theorem test_well_formed_ones_pass :
    (Instr.v3Head ⟨0x84, 0, 0, 0, 0, 0⟩).wellFormed = true ∧
    (Instr.v3Tail ⟨false, false, 2, 0, 0, 0, 0⟩).wellFormed = true ∧
    (Instr.focUnk 0xC).wellFormed = true := by decide

/-! ### Every constructor's decoding, from bytes written out by the format tables -/

/-- R91: byte 0 = 0100 0101 (FW, p3, L), byte 1 = 1000 0110 (f, x9 x8 = 01, y9 y8 = 10); T3.12. -/
theorem test_decode_v1Old :
    decodeBytes .v1 .old [0x45, 0x86, 0x2C, 0x90] =
      .ok (.v1Old ⟨true, false, false, false, true, true, 0, 300, 656, true, false⟩, []) := by decide

/-- R91: p1 is bit 5 and p2 bit 4, BK bit 7, m = byte 1 bits 5:4. -/
theorem test_decode_v1Old_parity_bits :
    decodeBytes .v1 .old [0xA2, 0x30, 0xFF, 0x01] =
      .ok (.v1Old ⟨false, true, true, false, false, false, 3, 255, 1, false, true⟩, []) := by decide

/-- R92: byte 0 = 0101 0100 (count 01, p1, p3); T3.1. -/
theorem test_decode_v1New :
    decodeBytes .v1 .new [0x54, 0x06, 0x2C, 0x90] =
      .ok (.v1New ⟨false, false, true, false, true, 1, 300, 656⟩, []) := by decide

/-- R96; T4.2. -/
theorem test_decode_v2F0 :
    decodeBytes .v2 .new [0x03, 0xFF, 0xFF, 0x7F, 0xFF, 0xFF] = .ok (.v2F0 ⟨true, true⟩, []) := by
  decide

/-- R94: x 300, y_raw 500, pressure 0x34, width 01 10; T4.3. -/
theorem test_decode_v2F1 :
    decodeBytes .v2 .new [0x51, 0x31, 0x2C, 0x20, 0x41, 0xF4] =
      .ok (.v2F1 ⟨true, false, 300, 500, 52, 6⟩, []) := by decide

/-- R95; T4.9. -/
theorem test_decode_v2F2 :
    decodeBytes .v2 .new [0x90, 0x2C, 0x96, 0x30, 0xF4, 0x5E] =
      .ok (.v2F2 ⟨false, false, 300, 150, 500, 350⟩, []) := by decide

/-- R94, overflow bit 0; T4.6. -/
theorem test_decode_v2F3 :
    decodeBytes .v2 .new [0xC0, 0x01, 0x00, 0x00, 0x02, 0x00] =
      .ok (.v2F3 ⟨false, false, 256, 512, 0, 0⟩, []) := by decide

/-- R94, overflow bit 1; T4.7. -/
theorem test_decode_v2F4 :
    decodeBytes .v2 .new [0xC0, 0x01, 0x00, 0x80, 0x02, 0x00] =
      .ok (.v2F4 ⟨false, false, 256, 512, 0, 0⟩, []) := by decide

/-- R98; T5.2. -/
theorem test_decode_v3F0 :
    decodeBytes .v3 .new [0x00, 0x50, 0x00, 0x00, 0x50, 0x00] =
      .ok (.v3F0 ⟨false, false, 0x55, 0⟩, []) := by decide

/-- R98; T5.3. -/
theorem test_decode_v3F1 :
    decodeBytes .v3 .new [0x50, 0x31, 0x2C, 0x20, 0x40, 0x64] =
      .ok (.v3F1 ⟨false, false, 300, 100, 52, 6⟩, []) := by decide

/-- R98: x = 0xB12, y = 0xC34, pressure 0xAD, both buttons. -/
theorem test_decode_v3F3 :
    decodeBytes .v3 .new [0xC3, 0xAB, 0x12, 0x00, 0xDC, 0x34] =
      .ok (.v3F3 ⟨true, true, 0xB12, 0xC34, 0xAD, 0⟩, []) := by decide

/-- R98: count 10, pattern 01; S5.1. -/
theorem test_decode_v3Head :
    decodeBytes .v3 .new [0x84, 0x01, 0x2C, 0x00, 0x00, 0x64] =
      .ok (.v3Head ⟨0x84, 0x01, 0x2C, 0x00, 0x00, 0x64⟩, []) := by decide

/-- R98: count 10, pattern 11; T5.13. -/
theorem test_decode_v3Tail :
    decodeBytes .v3 .new [0x8C, 0x03, 0xE8, 0x10, 0x91, 0x90] =
      .ok (.v3Tail ⟨false, false, 3, 1000, 400, 9, 1⟩, []) := by decide

/-- R100: byte 0 = 0001 0011, bits 7:5 of byte 1 ignored. -/
theorem test_decode_focTouch :
    decodeBytes .focal .new [0x13, 0xE4, 0x00, 0x00, 0x00, 0x00] =
      .ok (.focTouch ⟨true, 0b00100⟩, []) := by decide

/-- R101; S7.2 with byte 3 set. -/
theorem test_decode_focAbs :
    decodeBytes .focal .new [0x06, 0x31, 0x2C, 0xAB, 0x64, 0x10] =
      .ok (.focAbs ⟨false, 3, 300, 0xAB, 0x64, 0x10⟩, []) := by decide

/-- R102: byte 0 = 1001 1001 (P, idx1 = 001); P4 step 4. -/
theorem test_decode_focRel :
    decodeBytes .focal .new [0x99, 0x0A, 0xF6, 0x30, 0xEC, 0x05] =
      .ok (.focRel ⟨true, 1, 0x0A, 0xF6, 3, 0xEC, 0x05⟩, []) := by decide

/-- R103; T6.26. -/
theorem test_decode_focUnk :
    decodeBytes .focal .new [0xF7, 0xFF, 0xFF, 0xFF, 0xFF, 0xFF] = .ok (.focUnk 7, []) := by decide

/-- R110: FEED and the host operations have no encoding; the port event is the operation. -/
theorem test_decode_events :
    decodeEvent (.byte 0x41) = .feed 0x41 ∧ decodeEvent (.init v2) = .init v2 ∧
    decodeEvent .disconnect = .disconnect ∧ decodeEvent (.setParitycheck true) = .setParitycheck true ∧
    decodeEvent (.setDebug false) = .setDebug false := by decide

/-- R90: three bytes are no V1 packet. -/
theorem test_decode_refuses_a_short_list :
    decodeBytes .v1 .new [0x54, 0x06, 0x2C] = .error (.incompletePacket 3 4) := by decide

/-- Canonical encodings (R120): S4.a, T5.3, P4 step 4. -/
theorem test_encode_canonical :
    encode (.v2F2 ⟨false, false, 300, 150, 500, 350⟩) =
      [0x90, 0x2C, 0x96, 0x30, 0xF4, 0x5E].map Event.byte ∧
    encode (.v3F1 ⟨false, false, 300, 100, 52, 6⟩) =
      [0x50, 0x31, 0x2C, 0x20, 0x40, 0x64].map Event.byte ∧
    encode (.focRel ⟨true, 1, 0x0A, 0xF6, 3, 0xEC, 0x05⟩) =
      [0x99, 0x0A, 0xF6, 0x30, 0xEC, 0x05].map Event.byte := by decide

/-- Table words: the rows' patterns, low byte first. -/
theorem test_decode_table_words :
    decodeTableWord 8 0x84 = some (.v3Head ⟨0x84, 0, 0, 0, 0, 0⟩) ∧
    decodeTableWord 48 0x8000_00C0 = some (.v2F4 ⟨false, false, 0, 0, 0, 0⟩) ∧
    decodeTableWord 8 0x0C = some (.focUnk 0xC) := by decide

/-! ### Parity (R140, R143) -/

/-- S1. -/
theorem test_parity_entries :
    [0x00, 0x01, 0x02, 0x03, 0x07, 0x0F, 0x10, 0x55, 0x80, 0xAA, 0xFE, 0xFF].map parity =
      [true, false, false, true, false, true, false, true, false, true, false, true] := by decide

/-- T2.4, T2.6, T2.8: one valid setting in each era. -/
theorem test_parity_ok_by_era :
    parityOk .new ⟨0x54, 0x06, 0x2C, 0x90, 0, 0⟩ = true ∧
    parityOk .old ⟨0x54, 0x06, 0x2C, 0x90, 0, 0⟩ = false ∧
    parityOk .old ⟨0x64, 0x06, 0x2C, 0x90, 0, 0⟩ = true ∧
    parityOk .new ⟨0x74, 0x06, 0x2C, 0x90, 0, 0⟩ = false := by decide

/-- 0x01FFFF is era OLD, 0x020000 era NEW (T2). -/
theorem test_era_threshold : eraOf 0x01FFFF = .old ∧ eraOf 0x020000 = .new := by decide

/-! ### One step each: V1 -/

/-- T3.5: the Y inversion wraps. -/
theorem test_v1New_wraps :
    ports (ready v1New ⟨0x74, 0x03, 0x00, 0x00, 0, 0⟩) =
      some ⟨true, some ⟨1, some 0, some 65535, none, none, false, some false, none, none, []⟩,
        .frame⟩ := by decide

/-- S3.2: the second one-finger packet is discarded. -/
theorem test_v1New_discards :
    view (fun t => (t.streak, t.out))
      { ready { v1New with jumpyCursorWorkaround := true } ⟨0x54, 0x06, 0x2C, 0x90, 0, 0⟩ with
        streak := 1 } = some (2, ⟨true, none, .v1JumpyDiscard⟩) := by decide

/-- T3.12: the rocker buttons of era OLD. -/
theorem test_v1Old_rocker :
    ports (ready v1Old ⟨0x45, 0x86, 0x2C, 0x90, 0, 0⟩) =
      some ⟨true, some ⟨1, some 300, some 111, none, none, true, some false, some true, some false, []⟩,
        .frame⟩ := by decide

/-- T3.14: the count formula of era OLD reaches 4. -/
theorem test_v1Old_four_fingers :
    ports (ready v1Old ⟨0x94, 0xB0, 0x00, 0x00, 0, 0⟩) =
      some ⟨true, some ⟨4, some 0, some 767, none, none, false, some false, some false, some true, []⟩,
        .frame⟩ := by decide

/-! ### V2 -/

/-- T4.13: a release keeps the slot positions. -/
theorem test_v2F0_keeps_positions :
    view (fun t => t.slots[0])
      (onto { live v2 with slots := (live v2).slots.set 0 ⟨true, false, 511, 65408⟩ } Packet.zero) =
      some ⟨false, false, 511, 65408⟩ := by decide

/-- T4.2: count 0 forces pressure and width to 0. -/
theorem test_v2F0_ignores_other_bits :
    ports (ready v2 ⟨0x03, 0xFF, 0xFF, 0x7F, 0xFF, 0xFF⟩) =
      some ⟨true, some ⟨0, none, none, some 0, some 0, true, some true, none, none,
        [⟨0, false, none, none⟩, ⟨1, false, none, none⟩]⟩, .frame⟩ := by decide

/-- T4.3. -/
theorem test_v2F1 :
    ports (ready v2 ⟨0x51, 0x31, 0x2C, 0x20, 0x41, 0xF4⟩) =
      some ⟨true, some ⟨1, some 300, some 267, some 52, some 6, true, some false, none, none,
        [⟨0, true, some 300, some 267⟩, ⟨1, false, none, none⟩]⟩, .frame⟩ := by decide

/-- T4.12: the legacy shift loses the high bits of a wrapped Y. -/
theorem test_v2F2_legacy_shift :
    ports (ready v2 ⟨0xB0, 0xFF, 0xFF, 0x00, 0x00, 0x00⟩) =
      some ⟨true, some ⟨2, some 2044, some 65024, some 127, some 7, false, some false, none, none,
        [⟨0, true, some 511, some 65408⟩, ⟨1, true, some 0, some 383⟩]⟩, .frame⟩ := by decide

/-- T4.15: without the pressure flag the constants are absent too. -/
theorem test_v2F2_without_pressure :
    ports (ready { v2 with reportsPressure := false } ⟨0x90, 0x2C, 0x96, 0x30, 0xF4, 0x5E⟩) =
      some ⟨true, some ⟨2, some 1200, some 932, none, none, false, some false, none, none,
        [⟨0, true, some 300, some 233⟩, ⟨1, true, some 500, some 33⟩]⟩, .frame⟩ := by decide

/-- P2 step 4. -/
theorem test_v2F3 :
    ports (ready v2 ⟨0xE0, 0x51, 0x90, 0x10, 0x01, 0x2C⟩) =
      some ⟨true, some ⟨3, some 400, some 467, some 80, some 9, false, some false, none, none,
        [⟨0, true, some 400, some 467⟩, ⟨1, false, none, none⟩]⟩, .frame⟩ := by decide

/-- P2 step 5. -/
theorem test_v2F4 :
    ports (ready v2 ⟨0xE0, 0x51, 0x90, 0x90, 0x01, 0x2C⟩) =
      some ⟨true, some ⟨4, some 400, some 467, some 80, some 9, false, some false, none, none,
        [⟨0, true, some 400, some 467⟩, ⟨1, false, none, none⟩]⟩, .frame⟩ := by decide

/-! ### V3 -/

/-- T5.2: pressure is decoded at count 0. -/
theorem test_v3F0 :
    ports (ready v3 ⟨0x00, 0x50, 0x00, 0x00, 0x50, 0x00⟩) =
      some ⟨true, some ⟨0, none, none, some 85, some 0, false, some false, none, none,
        [⟨0, false, none, none⟩, ⟨1, false, none, none⟩]⟩, .frame⟩ := by decide

/-- T5.6: equality with both bounds passes. -/
theorem test_v3F1_on_the_bounds :
    ports (ready v3 ⟨0x40, 0x0B, 0xB8, 0x00, 0x07, 0xD0⟩) =
      some ⟨true, some ⟨1, some 3000, some 0, some 0, some 0, false, some false, none, none,
        [⟨0, true, some 3000, some 0⟩, ⟨1, false, none, none⟩]⟩, .frame⟩ := by decide

/-- T5.9: one past the Y bound is rejected. -/
theorem test_v3F1_rejected :
    ports (ready v3 ⟨0x40, 0x01, 0x2C, 0x00, 0x07, 0xD1⟩) =
      some ⟨true, none, .v3BoundsReject⟩ := by decide

/-- T5.4. -/
theorem test_v3F3 :
    ports (ready v3 ⟨0xC0, 0x01, 0x2C, 0x00, 0x00, 0x64⟩) =
      some ⟨true, some ⟨3, some 300, some 1900, some 0, some 0, false, some false, none, none,
        [⟨0, true, some 300, some 1900⟩, ⟨1, false, none, none⟩]⟩, .frame⟩ := by decide

/-- T5.10. -/
theorem test_v3Head :
    view (fun t => (t.pendValid, t.pend, t.out)) (ready v3 ⟨0x94, 0x31, 0x2C, 0x20, 0x40, 0x64⟩) =
      some (true, ⟨0x94, 0x31, 0x2C, 0x20, 0x40, 0x64⟩, ⟨true, none, .v3HeadStored⟩) := by decide

/-- T5.11: pressure and width from the HEAD, buttons from the TAIL. -/
theorem test_v3Tail_paired :
    view (fun t => (t.pendValid, t.out))
      (onto { live v3 with pendValid := true, pend := ⟨0x94, 0x31, 0x2C, 0x20, 0x40, 0x64⟩ }
        ⟨0xB1, 0xF3, 0xE8, 0x30, 0xF1, 0x90⟩) =
      some (false, ⟨true, some ⟨2, some 300, some 1900, some 52, some 6, true, some false, none, none,
        [⟨0, true, some 300, some 1900⟩, ⟨1, true, some 1000, some 1600⟩]⟩, .frame⟩) := by decide

/-- T5.13. -/
theorem test_v3Tail_unpaired :
    ports (ready v3 ⟨0x8C, 0x03, 0xE8, 0x10, 0x91, 0x90⟩) =
      some ⟨true, some ⟨1, some 1000, some 1600, some 9, some 1, false, some false, none, none,
        [⟨0, true, some 1000, some 1600⟩, ⟨1, false, none, none⟩]⟩, .v3TailUnpaired⟩ := by decide

/-! ### FOCAL -/

/-- T6.7: a slot placed while inactive loses `valid` when it is activated, and keeps its position. -/
theorem test_focTouch_activation_clears_valid :
    view (fun t => t.slots[1])
      (onto { live focal with slots := (live focal).slots.set 1 ⟨false, true, 200, 60⟩ }
        ⟨0x03, 0x13, 0x00, 0x00, 0x00, 0x00⟩) = some ⟨true, false, 200, 60⟩ := by decide

/-- T6.4: a slot that stays active keeps `valid`, and bitmap bits 7:5 are ignored. -/
theorem test_focTouch_stays_valid :
    view (fun t => (t.slots[2], t.slots[4]))
      (onto focalPlaced ⟨0x03, 0xFF, 0x00, 0x00, 0x00, 0x00⟩) =
      some (⟨true, true, 300, 100⟩, ⟨true, false, 0, 0⟩) := by decide

/-- T6.35: the mask 0xFF joins byte 3 to Y. -/
theorem test_focAbs_mask :
    view (fun t => t.slots[0])
      (onto { live focal with focalYHiMask := 0xFF } ⟨0x06, 0x10, 0x65, 0xAB, 0x33, 0x10⟩) =
      some ⟨false, true, 101, 43827⟩ := by decide

/-- T6.11: finger nibble 6 is ignored, the click bit with it. -/
theorem test_focAbs_bad_finger :
    view (fun t => (t.focalPressed, t.out.outcome, t.slots == focalPlaced.slots))
      (onto focalPlaced ⟨0x16, 0x60, 0x07, 0x00, 0x07, 0x10⟩) =
      some (false, .focAbsBadFinger, true) := by decide

/-- T6.15: both index fields name one slot; S8.1's baseline. -/
theorem test_focRel_same_slot_twice :
    view (fun t => (t.slots[2].x, t.slots[2].y, t.out.outcome))
      (onto focalPlaced ⟨0x39, 0xFF, 0xFF, 0x30, 0xFF, 0xFF⟩) =
      some (298, 98, .frame) := by decide

/-- T6.17: index 6 is skipped and shown, the other finger still moves, the click bit is bit 7. -/
theorem test_focRel_bad_finger :
    view (fun t => (t.slots[2].x, t.focalPressed, t.out.outcome))
      (onto focalPlaced ⟨0xE9, 0x01, 0x01, 0x30, 0x05, 0x01⟩) =
      some (305, true, .focRelBadFinger) := by decide

/-- S9.1: an unknown kind still gives the resync frame. -/
theorem test_focUnk_resync :
    ports (onto focalPlaced ⟨0x05, 0xFF, 0xFF, 0xFF, 0xFF, 0xFF⟩) =
      some ⟨true, some ⟨1, none, none, none, none, false, none, none, none,
        [⟨0, false, none, none⟩, ⟨1, false, none, none⟩, ⟨2, true, some 300, some 100⟩,
          ⟨3, false, none, none⟩, ⟨4, false, none, none⟩]⟩, .focUnknownKind⟩ := by decide

/-! ### FEED and the host operations -/

/-- T1.13: a byte that completes nothing is stored and counted. -/
theorem test_feed_counts :
    view (fun t => (t.buf.b4, t.accCount, t.out))
      { live v2 with accCount := 4, input := [.byte 0x01] } =
      some (0x01, 5, StepResult.idle) := by decide

/-- P5 step 5: wrong parity with the check on; the accumulator is empty again. -/
theorem test_feed_parity_drop :
    view (fun t => (t.accCount, t.out)) (ready v1New ⟨0xC4, 0x04, 0x00, 0x00, 0, 0⟩) =
      some (0, ⟨true, none, .v1ParityDrop⟩) := by decide

/-- P5 step 14: INIT empties the accumulator and loads the configuration. -/
theorem test_init :
    view (fun t => (t.sessionLive, t.cfg.hwVersion, t.accCount, t.buf))
      { State.reset with accCount := 2, buf := ⟨0x41, 0x04, 0, 0, 0, 0⟩, input := [.init v2] } =
      some (true, .v2, 0, Packet.zero) := by decide

/-- R251: INIT on a live session has no step. -/
theorem test_init_refused : view State.cfg { live v2 with input := [.init v3] } = none := by decide

/-- P5 step 13: DISCONNECT in mid-packet gives no frame. -/
theorem test_disconnect :
    view (fun t => (t.sessionLive, t.accCount, t.out))
      { live v1New with accCount := 2, input := [.disconnect] } =
      some (false, 2, StepResult.idle) := by decide

/-- P5 step 8: the flag is written in mid-packet. -/
theorem test_setParitycheck :
    view (fun t => (t.cfg.paritycheck, t.accCount))
      { live v1New with accCount := 2, input := [.setParitycheck false] } = some (false, 2) := by decide

/-- R254. -/
theorem test_setDebug :
    view (fun t => (t.cfg.debug, t.cfg.paritycheck))
      { live v1New with input := [.setDebug true] } = some (true, true) := by decide

/-- Log 3: with no event pending the ports go idle and nothing else changes. -/
theorem test_idle_step :
    view (fun t => (t.accCount, t.out))
      { live v2 with accCount := 3, out := ⟨true, none, .v3HeadStored⟩ } =
      some (3, StepResult.idle) := by decide

/-- Log 11: a placed table word is the very next operation after reset. -/
theorem test_placed_word_runs :
    view (fun t => t.out.outcome) (State.reset.withFetchWord 8 0x84) = some .v3HeadStored ∧
    view (fun t => t.out.outcome) (State.reset.withFetchWord 8 0x0C) = some .focUnknownKind := by
  decide

/-! ### Call view and index spaces -/

/-- R238: T1.14's frame as calls. -/
theorem test_frame_calls :
    frameCalls ⟨1, some 300, some 267, none, none, true, some false, none, none,
      [⟨0, true, some 300, some 267⟩, ⟨1, false, none, none⟩]⟩ =
    [.reportAbsolute .x 300, .reportAbsolute .y 267, .reportSlot 0 true (some 300) (some 267),
      .reportSlot 1 false none none, .reportButton .left true, .reportButton .right false,
      .sync] := by decide

/-- R60: BUF has four legal indices under V1; CFG index 3 is `y_max`; PARITY is read only. -/
theorem test_index_spaces :
    readUnit (live v1New) .buf 3 = some (.byte 0) ∧ readUnit (live v1New) .buf 4 = none ∧
    memRead (live v2) .cfg 3 2 = some [.reg 767, .reg 383] ∧
    readUnit (live v2) .parity 255 = some (.bit true) ∧
    writeUnit (live v2) .parity 0 (.bit false) = none := by decide

/-- R60: SLOT has indices 0..4 under V1 and FOCAL, 0..1 under V2 and V3. -/
theorem test_slot_space :
    readUnit (live v1New) .slot 4 = some (.entry Slot.zero) ∧ readUnit (live v1New) .slot 5 = none ∧
    readUnit (live v2) .slot 1 = some (.entry Slot.zero) ∧ readUnit (live v2) .slot 2 = none ∧
    readUnit (live v3) .slot 2 = none ∧ readUnit (live focal) .slot 5 = none := by decide

/-- R21, R22: a number written to a control register is cut to its width. -/
theorem test_cfg_cut :
    ((writeUnit (live v1New) .cfg 0 (.reg 5)).bind fun t => readUnit t .cfg 0) = some (.reg 1) ∧
    ((writeUnit (live v1New) .cfg 1 (.reg 0x1020003)).bind fun t => readUnit t .cfg 1) =
      some (.reg 0x020003) := by decide

/-- R60: two units written and read back. -/
theorem test_mem_write_then_read :
    ((memWrite (live v3) .pend 4 [.byte 0xAA, .byte 0x55]).bind fun t => memRead t .pend 4 2) =
      some [.byte 0xAA, .byte 0x55] := by decide

/-! ### Witnesses: hypotheses of the statements that some state and operands meet -/

theorem witness_DecodeOfEncodeIsTheInstruction :
    (Instr.v3Tail ⟨true, false, 3, 4095, 0, 255, 15⟩).wellFormed = true ∧
    contextOf (.v3Tail ⟨true, false, 3, 4095, 0, 255, 15⟩) = some (.v3, none) ∧
    (Instr.v1Old ⟨true, true, true, false, true, true, 3, 1023, 0, true, false⟩).wellFormed = true ∧
    contextOf (.v1Old ⟨true, true, true, false, true, true, 3, 1023, 0, true, false⟩) =
      some (.v1, some .old) := by decide

theorem witness_PortEventsAreTheirOperations : contextOf (.setDebug true) = none := by decide

theorem witness_IgnoredBitsDoNotChangeTheDecoding :
    agreeUnder (readMask (decodePacket .v2 .new ⟨0x90, 0x2C, 0x96, 0x30, 0xF4, 0x5E⟩))
      ⟨0x90, 0x2C, 0x96, 0x30, 0xF4, 0x5E⟩ ⟨0x9C, 0x2C, 0x96, 0xFF, 0xF4, 0x5E⟩ := by decide

/-- One state for each clause: not live; live and counting; the last byte with the parity drop; the
last byte without it. -/
theorem witness_FeedStoresCountsAndDispatches :
    State.reset.sessionLive = false ∧
    ((live v1New).sessionLive = true ∧ (live v1New).accCount.toNat + 1 ≠ packetSize .v1) ∧
    ((ready v1New ⟨0xC4, 0x04, 0x00, 0x00, 0, 0⟩).accCount.toNat + 1 = packetSize .v1 ∧
      v1New.paritycheck = true ∧
      parityOk (eraOf v1New.firmwareVersion) ⟨0xC4, 0x04, 0x00, 0x00, 0, 0⟩ = false) ∧
    ((ready v2 Packet.zero).accCount.toNat + 1 = packetSize .v2 ∧ v2.hwVersion ≠ .v1) := by decide

theorem witness_StepPerformsTheNextEvent :
    (ready v2 Packet.zero).input = [.byte 0] ∧ (live v2).input = [] := by decide

theorem witness_CompletingStepRunsTheDecodedInstruction :
    let s := ready v2 ⟨0x90, 0x2C, 0x96, 0x30, 0xF4, 0x5E⟩
    s.input = [.byte 0x5E] ∧ s.sessionLive = true ∧
    s.accCount.toNat + 1 = packetSize s.cfg.hwVersion ∧ s.cfg.hwVersion ≠ .v1 ∧
    decodeBytes s.cfg.hwVersion (eraOf s.cfg.firmwareVersion) (bufferedBytes s ++ [0x5E]) =
      .ok (.v2F2 ⟨false, false, 300, 150, 500, 350⟩, []) := by decide

theorem witness_FramingCountsBytesModuloThePacketSize :
    let s := { live v2 with accCount := 5, input := [.byte 1, .byte 2, .disconnect] }
    s.Inv ∧ s.sessionLive = true ∧ s.input = [1, 2].map Event.byte ++ [.disconnect] := by decide

theorem witness_PlacedTableWordIsRunByTheNextStep :
    decodeTableWord 48 0x40 = some (.v2F1 ⟨false, false, 0, 0, 0, 0⟩) := by decide

theorem witness_EveryStepKeepsTheInvariant :
    { live v1New with accCount := 3, streak := 2, input := [.byte 0] }.Inv ∧
    view State.accCount { live v1New with accCount := 3, streak := 2, input := [.byte 0] } = some 0 := by
  decide

theorem witness_NoStepFaults : { live focal with accCount := 5, input := [.byte 0] }.Inv := by decide

theorem witness_OutputPortsAgreeWithTheOutcome :
    ports (ready v3 ⟨0x84, 0, 0, 0, 0, 0⟩) = some ⟨true, none, .v3HeadStored⟩ := by decide

theorem witness_TheParameterIsNeverWritten :
    ∃ t, exec (.focTouch ⟨true, 4⟩) { live focal with focalYHiMask := 0x0F } = .next t := ⟨_, rfl⟩

theorem witness_ParityTableFollowsItsRecurrence : (0xFF : Byte) ≠ 0 := by decide

theorem witness_ResetSatisfiesTheInvariant :
    view State.sessionLive { State.reset with input := [.init v2] } = some true := by decide

theorem witness_StepCompletesExactlyOnLegalEvents :
    (live v2).Inv ∧ nextEventLegal { live v2 with input := [.byte 0] } = true ∧
    nextEventLegal { live v2 with input := [.init v3] } = false := by decide

theorem witness_EveryFrameHasTheShapeOfItsVariant :
    (ports (ready v2 Packet.zero)).isSome = true ∧
    ((ports (ready v2 Packet.zero)).bind StepResult.frame).isSome = true := by decide

theorem witness_V3FramesLieWithinTheBounds :
    v3.hwVersion = .v3 ∧ (ready v3 Packet.zero).sessionLive = true ∧
    ((ports (ready v3 ⟨0x40, 0x0B, 0xB8, 0x00, 0x07, 0xD0⟩)).bind StepResult.frame).isSome = true := by
  decide

theorem witness_ConfigurationIsFixedInASession :
    ∃ t, exec (.setDebug true) (live v2) = .next t ∧ (live v2).sessionLive = true := ⟨_, rfl, rfl⟩

theorem witness_FeedKeepsTheRegistersOfOtherVariants :
    (∃ t, exec (.feed 0) (ready v1New Packet.zero) = .next t) ∧
    (∃ t, exec (.feed 0) (ready v2 Packet.zero) = .next t) ∧
    (∃ t, exec (.feed 0) (ready focal Packet.zero) = .next t) := ⟨⟨_, rfl⟩, ⟨_, rfl⟩, ⟨_, rfl⟩⟩

theorem witness_DebugFlagHasNoEffect :
    (∀ c, Instr.feed 0x41 ≠ .init c) ∧ (∀ v, Instr.feed 0x41 ≠ .setDebug v) :=
  ⟨(fun _ h => nomatch h), (fun _ h => nomatch h)⟩

theorem witness_OneFlippedBitFailsTheParityCheck :
    parityOk .new ⟨0x54, 0x06, 0x2C, 0x90, 0, 0⟩ = true ∧ 7 < 8 := by decide

theorem witness_ParityDropsOnlyInvalidV1Packets :
    ports (ready v1New ⟨0xC4, 0x04, 0x00, 0x00, 0, 0⟩) = some ⟨true, none, .v1ParityDrop⟩ := by decide

/-- The discard clause at streak 1; the other clause at streak 2. -/
theorem witness_V1NewReportsOrDiscards :
    ({ v1New with jumpyCursorWorkaround := true }.jumpyCursorWorkaround = true ∧
      (⟨false, false, true, false, true, 1, 300, 656⟩ : V1NewForm).fingers = 1#2 ∧
      (1#2 : BitVec 2).toNat < 2) ∧ ¬ (2#2 : BitVec 2).toNat < 2 := by decide

theorem witness_V1OldReportsOrDiscards :
    ({ v1Old with jumpyCursorWorkaround := true }.jumpyCursorWorkaround = true ∧
      v1OldFingers true 0 = 1 ∧ (0#2 : BitVec 2).toNat < 2) ∧ v1OldFingers true 3 = 4 := by decide

theorem witness_TwoOneFingerPacketsAreDiscardedAfterAnyOtherCount :
    { v1New with jumpyCursorWorkaround := true }.jumpyCursorWorkaround = true ∧
    v1Count (.v1New ⟨false, false, false, false, false, 0, 0, 0⟩) = some 0 ∧
    v1Count (.v1New ⟨false, false, true, false, true, 1, 300, 656⟩) = some 1 ∧
    v1Count (.v1Old ⟨true, false, false, true, false, true, 3, 0, 0, false, true⟩) = some 4 ∧
    v1Count (.v1Old ⟨true, false, false, false, true, true, 0, 300, 656, true, false⟩) = some 1 := by
  decide

theorem witness_V2OnePositionCountsShareOneDecoding :
    (Instr.v2F3 ⟨false, false, 400, 300, 80, 9⟩ = .v2F3 ⟨false, false, 400, 300, 80, 9⟩ ∧ 3 = 3) ∧
    view (fun t => t.out.outcome) (ready v2 ⟨0xE0, 0x51, 0x90, 0x10, 0x01, 0x2C⟩) = some .frame := by
  decide

/-- In bounds at both bounds; out of bounds by one in X, and by one in Y. -/
theorem witness_V3OneFingerReportsOrRejects :
    ((3000#12).toNat ≤ v3.xMax.toNat ∧ (2000#12).toNat ≤ v3.yMax.toNat) ∧
    v3.xMax.toNat < (3001#12).toNat ∧ v3.yMax.toNat < (2001#12).toNat := by decide

theorem witness_V3UnpairedTailIsOneFinger :
    (live v3).pendValid = false ∧ (1000#12).toNat ≤ (live v3).cfg.xMax.toNat ∧
    (2000#12).toNat ≤ (live v3).cfg.yMax.toNat ∧ (live v3).cfg.yMax.toNat < (2001#12).toNat := by decide

/-- A pending packet in bounds, and one out of bounds (T5.17). -/
theorem witness_V3PairedTailJoinsThePendingPacket :
    { live v3 with pendValid := true }.pendValid = true ∧
    (Layout.v3X ⟨0x84, 0x0B, 0xB8, 0x00, 0x07, 0xD0⟩).toNat ≤ v3.xMax.toNat ∧
    (Layout.v3Y ⟨0x84, 0x0B, 0xB8, 0x00, 0x07, 0xD0⟩).toNat ≤ v3.yMax.toNat ∧
    (1000#12).toNat ≤ v3.xMax.toNat ∧ (400#12).toNat ≤ v3.yMax.toNat ∧
    v3.xMax.toNat < (Layout.v3X ⟨0x84, 0x0F, 0xA0, 0x00, 0x00, 0x0A⟩).toNat := by decide

theorem witness_APacketIsPendingExactlyAfterAHead :
    v3.hwVersion = .v3 ∧
    (ready v3 ⟨0x84, 0, 0, 0, 0, 0⟩).accCount.toNat + 1 = packetSize .v3 ∧
    view State.pendValid (ready v3 ⟨0x84, 0, 0, 0, 0, 0⟩) = some true ∧
    view State.pendValid (ready v3 ⟨0x80, 0, 0, 0, 0, 0⟩) = some false := by decide

theorem witness_StalePendingBytesAreNeverRead :
    (Instr.v3Tail ⟨false, false, 0, 1000, 400, 0, 0⟩).isPacketOp = true ∧
    (live v3).pendValid = false ∧
    ∀ p, Instr.v3Tail ⟨false, false, 0, 1000, 400, 0, 0⟩ ≠ .v3Head p :=
  ⟨rfl, rfl, fun _ h => nomatch h⟩

theorem witness_HeadThenTailGivesOneTwoFingerFrame :
    (Layout.v3X ⟨0x84, 0x01, 0x2C, 0x00, 0x00, 0x64⟩).toNat ≤ v3.xMax.toNat ∧
    (Layout.v3Y ⟨0x84, 0x01, 0x2C, 0x00, 0x00, 0x64⟩).toNat ≤ v3.yMax.toNat ∧
    (1000#12).toNat ≤ v3.xMax.toNat ∧ (400#12).toNat ≤ v3.yMax.toNat := by decide

theorem witness_EveryFocalPacketResyncs :
    focal.hwVersion = .focal ∧ (ready focal Packet.zero).sessionLive = true ∧
    (ready focal Packet.zero).accCount.toNat + 1 = packetSize .focal := by decide

/-- Fingers 1 and 5, the two ends of the range; the sentinel, and the value below it. -/
theorem witness_FocAbsPlacesOneSlot :
    (1 ≤ (1#4).toNat ∧ (1#4).toNat ≤ 5) ∧ (1 ≤ (5#4).toNat ∧ (5#4).toNat ≤ 5) ∧
    (0 : Fin 5).val + 1 = (1#4).toNat ∧ (4 : Fin 5).val + 1 = (5#4).toNat ∧
    (0xFE : Byte) ≠ 0xFF ∧ (live focal).focalYHiMask = 0x00 := by decide

/-- The slots at both ends; the sentinel and its neighbour. -/
theorem witness_OnlyTheSentinelSizeHidesTheSlot :
    (1#4).toNat = (0 : Fin 5).val + 1 ∧ (5#4).toNat = (4 : Fin 5).val + 1 ∧
    (⟨false, 5, 0, 0, 0, 0xFF⟩ : FocAbsForm).z = 0xFF ∧
    (⟨false, 1, 0, 0, 0, 0xFE⟩ : FocAbsForm).z ≠ 0xFF := by decide

theorem witness_FocAbsIgnoresOtherFingers :
    (0#4).toNat = 0 ∧ 6 ≤ (6#4).toNat ∧ 6 ≤ (15#4).toNat := by decide

theorem witness_SuccessiveRelPacketsAccumulate :
    let o : FocRelForm := ⟨false, 3, 0x05, 0xFD, 0, 0x00, 0x00⟩
    o.idx1.toNat = (2 : Fin 5).val + 1 ∧ o.idx2 = 0 := by decide

theorem witness_UnknownKindRepeatsThePreviousFrame :
    contextOf (.focTouch ⟨true, 4⟩) = some (.focal, none) ∧
    ∃ t u, exec (.focTouch ⟨true, 4⟩) (live focal) = .next t ∧ exec (.focUnk 5) t = .next u :=
  ⟨rfl, _, _, rfl, rfl⟩

theorem witness_InitResetsTheBlock : State.reset.sessionLive = false := rfl

theorem witness_DisconnectDropsEverythingSilently :
    { live v3 with pendValid := true, accCount := 5 }.sessionLive = true := rfl

theorem witness_SetParitycheckWritesOneFlag :
    { live v1New with accCount := 2 }.sessionLive = true := rfl

theorem witness_SetDebugWritesOneFlag : (live focal).sessionLive = true := rfl

/-- One state for each clause. -/
theorem witness_OperationsOutsideTheirSessionAreRefused :
    State.reset.sessionLive = false ∧ (live v2).sessionLive = true := ⟨rfl, rfl⟩

theorem witness_NothingSurvivesDisconnectThenInit :
    let s := { live v3 with pendValid := true, accCount := 5, streak := 2, focalPressed := true }
    s.sessionLive = true ∧ (live v2).sessionLive = true ∧
    s.focalYHiMask = (live v2).focalYHiMask ∧ s.input = (live v2).input := by decide

theorem witness_SinkCallsEndInOneSync : StepResult.idle.frame = none := rfl

theorem witness_AWrittenUnitIsReadBackAndOthersAreKept :
    (writeUnit (live focal) .slot 4 (.entry ⟨true, true, 1, 2⟩)).isSome = true ∧
    (writeUnit (live v1New) .cfg 0 (.reg 5)).isSome = true ∧
    (writeUnit (live focal) .cfg 9 (.reg 1)).isSome = true := by decide

end Sys2Proof.Tests
end

section
/-! The operations as port events, and what a step takes from its input and leaves of it: the split of
`Instr` into packet operations and port events, the next state of each host operation, and the parameter
and the event list, which no operation writes (R6, R8, R110, R250). -/

namespace Sys2Proof.Machine

/-! ### Packet operations and port events -/

/-- The packet operations are those that a packet selects in some context (R9, R110). -/
theorem isPacketOp_eq_contextOf_isSome (i : Instr) : i.isPacketOp = (contextOf i).isSome := by
  cases i <;> rfl

/-- FEED and the host operations are what the port events ask for (R8). -/
theorem exists_event_of_isPacketOp_eq_false {i : Instr} (h : i.isPacketOp = false) :
    ∃ e, decodeEvent e = i := by
  cases i
  case feed b => exact ⟨.byte b, rfl⟩
  case init c => exact ⟨.init c, rfl⟩
  case disconnect => exact ⟨.disconnect, rfl⟩
  case setParitycheck v => exact ⟨.setParitycheck v, rfl⟩
  case setDebug v => exact ⟨.setDebug v, rfl⟩
  all_goals cases h

/-- The operation of a port event is encoded as that event alone. -/
@[simp] theorem encode_decodeEvent (e : Event) : encode (decodeEvent e) = [e] := by
  cases e <;> rfl

/-- Settles O2: an operation without a context is the operation of a port event, and encoding the
operation of an event gives the event back. -/
theorem portEventsAreTheirOperations : Obligations.PortEventsAreTheirOperations := by
  unfold Obligations.PortEventsAreTheirOperations
  refine ⟨fun i hi => ?_, encode_decodeEvent⟩
  have hpacket : i.isPacketOp = false := by simp [isPacketOp_eq_contextOf_isSome, hi]
  obtain ⟨e, rfl⟩ := exists_event_of_isPacketOp_eq_false hpacket
  exact ⟨e, encode_decodeEvent e, rfl⟩

/-! ### One step -/

/-- A step with an event pending performs the oldest one, on the state that no longer holds it. -/
theorem step_of_input_cons {s : State} {e : Event} {es : List Event} (h : s.input = e :: es) :
    step s = exec (decodeEvent e) (s.withInput es) := by
  simp only [step, h]

/-- A step with no event pending only idles the ports. -/
theorem step_of_input_nil {s : State} (h : s.input = []) : step s = .next s.quiet := by
  simp only [step, h]

/-- Settles O8, by the two cases of the event list. -/
theorem stepPerformsTheNextEvent : Obligations.StepPerformsTheNextEvent := by
  unfold Obligations.StepPerformsTheNextEvent
  exact ⟨fun _ _ _ h => step_of_input_cons h, fun _ h => step_of_input_nil h⟩

/-! ### The next state of a host operation -/

/-- INIT answers on a dead session only, and resets every register but the parameter and the events to
come (R251, R290). -/
theorem execInit_next {c : SessionConfig} {s t : State} (h : execInit c s = .next t) :
    s.sessionLive = false ∧
    t = { State.reset with
      sessionLive := true, cfg := c, focalYHiMask := s.focalYHiMask, input := s.input } := by
  cases hl : s.sessionLive <;> simp only [execInit, hl] at h <;> cases h
  exact ⟨rfl, rfl⟩

/-- DISCONNECT answers on a live session only, and ends it (R252). -/
theorem execDisconnect_next {s t : State} (h : execDisconnect s = .next t) :
    s.sessionLive = true ∧ t = (s.withLive false).quiet := by
  cases hl : s.sessionLive <;> simp only [execDisconnect, hl] at h <;> cases h
  exact ⟨rfl, rfl⟩

/-- SET_PARITYCHECK answers on a live session only, and writes its flag (R253). -/
theorem execSetParitycheck_next {v : Bool} {s t : State}
    (h : execSetParitycheck v s = .next t) :
    s.sessionLive = true ∧ t = (s.withCfg { s.cfg with paritycheck := v }).quiet := by
  cases hl : s.sessionLive <;> simp only [execSetParitycheck, hl] at h <;> cases h
  exact ⟨rfl, rfl⟩

/-- SET_DEBUG answers on a live session only, and writes its flag (R254). -/
theorem execSetDebug_next {v : Bool} {s t : State} (h : execSetDebug v s = .next t) :
    s.sessionLive = true ∧ t = (s.withCfg { s.cfg with debug := v }).quiet := by
  cases hl : s.sessionLive <;> simp only [execSetDebug, hl] at h <;> cases h
  exact ⟨rfl, rfl⟩

/-! ### The parameter and the events to come -/

/-- The dispatch of a packet stays in its session, dropped or performed. -/
theorem dispatch_sameSession {s t : State} (h : dispatch s = .next t) : SameSession s t := by
  obtain ⟨-, he⟩ | ⟨-, he⟩ := dispatch_cases s <;> rw [he] at h
  · cases h
    exact ⟨rfl, rfl, rfl, rfl, rfl, rfl⟩
  · exact exec_packetOp_sameSession (decodePacket_isPacketOp _ _ _) h

/-- The two fields that stand for the outside world, the parameter and the events to come, are as
before. -/
structure SameOutside (s t : State) : Prop where
  focalYHiMask : t.focalYHiMask = s.focalYHiMask
  input : t.input = s.input

theorem SameSession.sameOutside {s t : State} (h : SameSession s t) : SameOutside s t :=
  ⟨h.focalYHiMask, h.input⟩

/-- FEED stores and counts its byte, and what it then dispatches stays in its session. -/
theorem execFeed_sameOutside {b : Byte} {s t : State} (h : execFeed b s = .next t) :
    SameOutside s t := by
  obtain ⟨-, -, p, -, ⟨-, hd⟩ | ⟨-, rfl⟩⟩ := execFeed_next h
  · have hs := dispatch_sameSession hd
    exact ⟨hs.focalYHiMask, hs.input⟩
  · exact ⟨rfl, rfl⟩

/-- The operation of a port event writes neither the parameter nor the events after it. -/
theorem exec_decodeEvent_sameOutside {e : Event} {s t : State}
    (h : exec (decodeEvent e) s = .next t) : SameOutside s t := by
  cases e with
  | byte b => exact execFeed_sameOutside h
  | init c =>
    obtain ⟨-, rfl⟩ := execInit_next h
    exact ⟨rfl, rfl⟩
  | disconnect =>
    obtain ⟨-, rfl⟩ := execDisconnect_next h
    exact ⟨rfl, rfl⟩
  | setParitycheck v =>
    obtain ⟨-, rfl⟩ := execSetParitycheck_next h
    exact ⟨rfl, rfl⟩
  | setDebug v =>
    obtain ⟨-, rfl⟩ := execSetDebug_next h
    exact ⟨rfl, rfl⟩

/-- No operation at all writes them: a packet operation stays in its session, and any other operation
is that of a port event. -/
theorem exec_sameOutside {i : Instr} {s t : State} (h : exec i s = .next t) : SameOutside s t := by
  cases hp : i.isPacketOp
  · obtain ⟨e, rfl⟩ := exists_event_of_isPacketOp_eq_false hp
    exact exec_decodeEvent_sameOutside h
  · exact (exec_packetOp_sameSession hp h).sameOutside

/-- Settles O20, by what every operation keeps. -/
theorem theParameterIsNeverWritten : Obligations.TheParameterIsNeverWritten := by
  unfold Obligations.TheParameterIsNeverWritten
  intro i s t h
  have hs := exec_sameOutside h
  exact ⟨hs.focalYHiMask, hs.input⟩

end Sys2Proof.Machine
end

section
/-! What the packet operations of each variant are, and what FEED makes of the registers that frame the
byte stream: the layer that the statements about the state rest on (R33, R110, R130, R133). -/

namespace Sys2Proof.Machine

/-! ### The packet operations of each variant -/

/-- The packet that a session completes selects an operation of the session's own variant (R110). -/
theorem exists_contextOf_decodePacket (hw : HwVersion) (era : Era) (p : Packet) :
    ∃ oe, contextOf (decodePacket hw era p) = some (hw, oe) := by
  cases hw
  case v1 => cases era <;> exact ⟨_, rfl⟩
  case v2 => simp only [decodePacket, decodeV2]; split_ifs <;> exact ⟨_, rfl⟩
  case v3 => simp only [decodePacket, decodeV3]; split_ifs <;> exact ⟨_, rfl⟩
  case focal => simp only [decodePacket, decodeFocal]; split_ifs <;> exact ⟨_, rfl⟩

/-- Every V1 operation is one V1 packet (R150). -/
theorem exec_eq_v1Packet {i : Instr} {oe : Option Era} (h : contextOf i = some (.v1, oe))
    (s : State) :
    ∃ n x y left right forward back,
      exec i s = .next (v1Packet n x y left right forward back s) := by
  cases i <;> cases h <;> exact ⟨_, _, _, _, _, _, _, rfl⟩

/-- Every V2 operation is one V2 packet (R171). -/
theorem exec_eq_v2Packet {i : Instr} {oe : Option Era} (h : contextOf i = some (.v2, oe))
    (s : State) : ∃ n d left right, exec i s = .next (v2Packet n d left right s) := by
  cases i <;> cases h <;> exact ⟨_, _, _, _, rfl⟩

/-- A TAIL is one V3 packet, of two positions or of one as a HEAD is pending or not (R193). -/
theorem execV3Tail_eq_v3Packet (o : V3TailForm) (s : State) :
    ∃ n positions pressure width left right oc,
      execV3Tail o s = .next (v3Packet n positions pressure width left right oc s) := by
  unfold execV3Tail
  split
  · exact ⟨_, _, _, _, _, _, _, rfl⟩
  · exact ⟨_, _, _, _, _, _, _, rfl⟩

/-- A V3 operation stores a HEAD, or is one V3 packet (R191, R192). -/
theorem exec_eq_v3Head_or_v3Packet {i : Instr} {oe : Option Era}
    (h : contextOf i = some (.v3, oe)) (s : State) :
    (∃ p, exec i s = .next (raiseOutcome .v3HeadStored (s.storePend p))) ∨
    ∃ n positions pressure width left right oc,
      exec i s = .next (v3Packet n positions pressure width left right oc s) := by
  cases i <;> cases h
  case v3Head p => exact .inl ⟨p, rfl⟩
  case v3Tail o => exact .inr (execV3Tail_eq_v3Packet o s)
  all_goals exact .inr ⟨_, _, _, _, _, _, _, rfl⟩

/-- Every FOCAL operation is a resync of some slot file and click state (R211). -/
theorem exec_eq_focResync {i : Instr} {oe : Option Era} (h : contextOf i = some (.focal, oe))
    (s : State) :
    ∃ oc pressed v,
      exec i s = .next (focResync oc ((s.withPressed pressed).withSlots v)) := by
  cases i <;> cases h
  case focAbs o =>
    obtain ⟨-, he⟩ | ⟨j, -, he⟩ := execFocAbs_cases o s
    · exact ⟨_, s.focalPressed, s.slots, he⟩
    · exact ⟨_, _, _, he⟩
  case focUnk k => exact ⟨_, s.focalPressed, s.slots, rfl⟩
  all_goals exact ⟨_, _, _, rfl⟩

/-! ### The dispatch and FEED -/

/-- What the dispatch can do, by the session's variant: drop the packet, or perform an operation of
that variant (R133). -/
theorem dispatch_next_cases {s t : State} (h : dispatch s = .next t) :
    t = raiseOutcome .v1ParityDrop s ∨
    ∃ i oe, contextOf i = some (s.cfg.hwVersion, oe) ∧ exec i s = .next t := by
  obtain ⟨-, he⟩ | ⟨-, he⟩ := dispatch_cases s
  · rw [he, Host.Outcome.next.injEq] at h
    exact .inl h.symm
  · obtain ⟨oe, hc⟩ := exists_contextOf_decodePacket s.cfg.hwVersion s.era s.buf
    exact .inr ⟨_, oe, hc, he ▸ h⟩

theorem packetSize_pos (hw : HwVersion) : 0 < packetSize hw := by
  cases hw <;> decide

/-- Counting a byte of an uncompleted packet does not wrap the three bits of `acc_count` (R33). -/
theorem accCount_add_one_toNat {n : BitVec 3} {hw : HwVersion} (h : n.toNat < packetSize hw) :
    (n + 1).toNat = n.toNat + 1 := by
  have := packetSize_le hw
  bv_omega

/-- How FEED leaves the session and the accumulator, whatever packet it completes: the session as
before, the byte stored, and counted modulo `S` (R33, R130). -/
structure ByteCounted (b : Byte) (s t : State) : Prop where
  sessionLive : t.sessionLive = s.sessionLive
  cfg : t.cfg = s.cfg
  buf : packetSet s.buf s.accCount.toNat b = some t.buf
  accCount : t.accCount.toNat = (s.accCount.toNat + 1) % packetSize s.cfg.hwVersion
  input : t.input = s.input

theorem execFeed_byteCounted {b : Byte} {s t : State} (h : execFeed b s = .next t) :
    ByteCounted b s t := by
  obtain ⟨-, hacc, p, hp, ⟨hc, hd⟩ | ⟨hc, rfl⟩⟩ := execFeed_next h
  · have hs := dispatch_sameSession hd
    have hlast : s.accCount.toNat + 1 = packetSize s.cfg.hwVersion := by simpa [completes] using hc
    have hzero : t.accCount.toNat = 0 := by simp [hs.accCount]
    exact ⟨hs.sessionLive, hs.cfg, by rw [hp, hs.buf]; rfl,
      by rw [hzero, hlast, Nat.mod_self], hs.input⟩
  · have hmore : s.accCount.toNat + 1 ≠ packetSize s.cfg.hwVersion := by
      simpa [completes] using hc
    refine ⟨rfl, rfl, hp, ?_, rfl⟩
    rw [Nat.mod_eq_of_lt (by omega)]
    exact accCount_add_one_toNat hacc

/-- FEED on a live session with a legal `acc_count` completes. -/
theorem execFeed_completes {s : State} (b : Byte) (hl : s.sessionLive = true)
    (ha : s.accCount.toNat < packetSize s.cfg.hwVersion) : ∃ t, execFeed b s = .next t := by
  obtain ⟨p, -, ⟨-, he⟩ | ⟨-, he⟩⟩ := execFeed_of_legal b hl ha
  · rw [he]; exact dispatch_next _
  · exact ⟨_, he⟩

/-! ### Framing by counting -/

/-- A step that takes a byte on a live session counts it modulo `S`. -/
theorem step_byte_counts {s : State} {b : Byte} {es : List Event} (h : s.input = .byte b :: es)
    (hl : s.sessionLive = true) (ha : s.accCount.toNat < packetSize s.cfg.hwVersion) :
    ∃ t, step s = .next t ∧ ByteCounted b (s.withInput es) t := by
  obtain ⟨t, ht⟩ := execFeed_completes (s := s.withInput es) b hl ha
  exact ⟨t, (step_of_input_cons h).trans ht, execFeed_byteCounted ht⟩

theorem core_run_succ_of_step {s t : State} (h : step s = .next t) (k : Nat) :
    Sys2Proof.core.run (k + 1) s = Sys2Proof.core.run k t := by
  have hcore : Sys2Proof.core.step s = .next t := h
  simp only [Host.Core.run, hcore]

/-- A run over a list of bytes adds their number to `acc_count`, modulo `S`, and keeps the session. -/
theorem core_run_bytes (bytes : List Byte) (es : List Event) {s : State}
    (ha : s.accCount.toNat < packetSize s.cfg.hwVersion) (hl : s.sessionLive = true)
    (hin : s.input = bytes.map Event.byte ++ es) :
    ∃ t, Sys2Proof.core.run bytes.length s = .next t ∧
      t.accCount.toNat = (s.accCount.toNat + bytes.length) % packetSize s.cfg.hwVersion ∧
      t.input = es ∧ t.cfg = s.cfg ∧ t.sessionLive = true := by
  induction bytes generalizing s with
  | nil => exact ⟨s, rfl, (Nat.mod_eq_of_lt ha).symm, hin, rfl, hl⟩
  | cons b bs ih =>
    obtain ⟨u, hu, hf⟩ := step_byte_counts hin hl ha
    have hcfg : u.cfg = s.cfg := hf.cfg
    have hacc : u.accCount.toNat = (s.accCount.toNat + 1) % packetSize s.cfg.hwVersion :=
      hf.accCount
    have hlt : u.accCount.toNat < packetSize u.cfg.hwVersion := by
      rw [hacc, hcfg]
      exact Nat.mod_lt _ (packetSize_pos _)
    obtain ⟨t, ht, htacc, htin, htcfg, htlive⟩ := ih hlt (hf.sessionLive.trans hl) hf.input
    refine ⟨t, (core_run_succ_of_step hu _).trans ht, ?_, htin, htcfg.trans hcfg, htlive⟩
    rw [htacc, hcfg, hacc, Nat.mod_add_mod, List.length_cons]
    congr 1
    omega

/-- Settles O10, by induction on the bytes: each step counts one and keeps the session. -/
theorem framingCountsBytesModuloThePacketSize :
    Obligations.FramingCountsBytesModuloThePacketSize := by
  unfold Obligations.FramingCountsBytesModuloThePacketSize
  intro bytes s es ⟨ha, _⟩ hl hin
  exact core_run_bytes bytes es ha hl hin

/-! ### The registers that a variant does not use -/

/-- A semi-MT frame never writes the upper three entries of the slot file (R36). -/
theorem semiMtSlots_upper (fingers : Nat) (pos1 pos2 : Option Pos) (v : Vector Slot 5) :
    (semiMtSlots fingers pos1 pos2 v)[2] = v[2] ∧ (semiMtSlots fingers pos1 pos2 v)[3] = v[3] ∧
      (semiMtSlots fingers pos1 pos2 v)[4] = v[4] := by
  simp [semiMtSlots, setSlot]

theorem semiMtSlot_valid (active : Bool) (pos : Option Pos) (e : Slot) :
    (semiMtSlot active pos e).valid = e.valid := by
  unfold semiMtSlot
  split <;> rfl

/-- A semi-MT frame never writes a `valid` (R233). -/
theorem semiMtSlots_valid (fingers : Nat) (pos1 pos2 : Option Pos) (v : Vector Slot 5) (i : Fin 5) :
    (semiMtSlots fingers pos1 pos2 v)[i].valid = v[i].valid := by
  obtain ⟨h2, h3, h4⟩ := semiMtSlots_upper fingers pos1 pos2 v
  match i with
  | 0 => simp [semiMtSlots, setSlot, semiMtSlot_valid]
  | 1 => simp [semiMtSlots, setSlot, semiMtSlot_valid]
  | 2 => exact congrArg Slot.valid h2
  | 3 => exact congrArg Slot.valid h3
  | 4 => exact congrArg Slot.valid h4

/-- The data registers that a variant has no use for are as before (R34 to R37, R46). -/
structure UnusedKept (hw : HwVersion) (s t : State) : Prop where
  streak : hw ≠ .v1 → t.streak = s.streak
  pend : hw ≠ .v3 → t.pendValid = s.pendValid ∧ t.pend = s.pend
  slots : hw = .v1 → t.slots = s.slots
  semiMt : hw = .v2 ∨ hw = .v3 →
    upperSlotsKept s t ∧ ∀ i : Fin 5, t.slots[i].valid = s.slots[i].valid
  focalPressed : hw ≠ .focal → t.focalPressed = s.focalPressed

/-- A packet that ends with no more than its outcome keeps every register. -/
theorem withOut_unusedKept (hw : HwVersion) (s : State) (r : StepResult) :
    UnusedKept hw s (s.withOut r) :=
  ⟨fun _ => rfl, fun _ => ⟨rfl, rfl⟩, fun _ => rfl, fun _ => ⟨⟨rfl, rfl, rfl⟩, fun _ => rfl⟩,
    fun _ => rfl⟩

theorem v1Packet_unusedKept (fingers : Nat) (x y : BitVec 10) (left right : Bool)
    (forward back : Option Bool) (s : State) :
    UnusedKept .v1 s (v1Packet fingers x y left right forward back s) := by
  obtain ⟨-, h⟩ | ⟨-, h⟩ := v1Packet_cases fingers x y left right forward back s <;> rw [h] <;>
    exact ⟨fun hw => absurd rfl hw, fun _ => ⟨rfl, rfl⟩, fun _ => rfl, by simp, fun _ => rfl⟩

theorem v2Packet_unusedKept (fingers : Nat) (d : V2Decoded) (left right : Bool) (s : State) :
    UnusedKept .v2 s (v2Packet fingers d left right s) :=
  ⟨fun _ => rfl, fun _ => ⟨rfl, rfl⟩, nofun,
    fun _ => ⟨semiMtSlots_upper .., semiMtSlots_valid _ _ _ _⟩, fun _ => rfl⟩

theorem v3Packet_unusedKept (fingers : Nat) (positions : List Pos) (pressure : Byte)
    (width : BitVec 4) (left right : Bool) (oc : OutcomeCode) (s : State) :
    UnusedKept .v3 s (v3Packet fingers positions pressure width left right oc s) := by
  obtain ⟨-, h⟩ | ⟨-, h⟩ := v3Packet_cases fingers positions pressure width left right oc s <;> rw [h]
  · exact ⟨fun _ => rfl, fun hw => absurd rfl hw, nofun,
      fun _ => ⟨⟨rfl, rfl, rfl⟩, fun _ => rfl⟩, fun _ => rfl⟩
  · exact ⟨fun _ => rfl, fun hw => absurd rfl hw, nofun,
      fun _ => ⟨semiMtSlots_upper .., semiMtSlots_valid _ _ _ _⟩, fun _ => rfl⟩

/-- A packet operation keeps the registers that its variant does not use. -/
theorem exec_unusedKept {i : Instr} {hw : HwVersion} {oe : Option Era} {s t : State}
    (hc : contextOf i = some (hw, oe)) (h : exec i s = .next t) : UnusedKept hw s t := by
  cases hw
  case v1 =>
    obtain ⟨_, _, _, _, _, _, _, he⟩ := exec_eq_v1Packet hc s
    cases he.symm.trans h
    exact v1Packet_unusedKept ..
  case v2 =>
    obtain ⟨_, _, _, _, he⟩ := exec_eq_v2Packet hc s
    cases he.symm.trans h
    exact v2Packet_unusedKept ..
  case v3 =>
    obtain ⟨p, he⟩ | ⟨_, _, _, _, _, _, _, he⟩ := exec_eq_v3Head_or_v3Packet hc s <;>
      cases he.symm.trans h
    · exact ⟨fun _ => rfl, fun hw => absurd rfl hw, nofun,
        fun _ => ⟨⟨rfl, rfl, rfl⟩, fun _ => rfl⟩, fun _ => rfl⟩
    · exact v3Packet_unusedKept ..
  case focal =>
    obtain ⟨_, _, _, he⟩ := exec_eq_focResync hc s
    cases he.symm.trans h
    exact ⟨fun _ => rfl, fun _ => ⟨rfl, rfl⟩, nofun, by simp, fun hw => absurd rfl hw⟩

theorem dispatch_unusedKept {s t : State} (h : dispatch s = .next t) :
    UnusedKept s.cfg.hwVersion s t := by
  obtain rfl | ⟨i, oe, hc, he⟩ := dispatch_next_cases h
  · exact withOut_unusedKept ..
  · exact exec_unusedKept hc he

/-- FEED keeps the registers that the session's variant does not use. -/
theorem execFeed_unusedKept {b : Byte} {s t : State} (h : execFeed b s = .next t) :
    UnusedKept s.cfg.hwVersion s t := by
  obtain ⟨-, -, p, -, ⟨-, hd⟩ | ⟨-, rfl⟩⟩ := execFeed_next h
  · have hk := dispatch_unusedKept hd
    exact ⟨hk.streak, hk.pend, hk.slots, hk.semiMt, hk.focalPressed⟩
  · have hk := withOut_unusedKept s.cfg.hwVersion s StepResult.idle
    exact ⟨hk.streak, hk.pend, hk.slots, hk.semiMt, hk.focalPressed⟩

/-- Writing a byte of a packet keeps the other bytes. -/
theorem packetGet_packetSet_ne {p q : Packet} {k j : Nat} {b : Byte} (h : packetSet p k b = some q)
    (hj : j ≠ k) : packetGet q j = packetGet p j := by
  match k with
  | 0 | 1 | 2 | 3 | 4 | 5 =>
    simp only [packetSet, Option.some.injEq] at h
    subst h
    unfold packetGet
    split <;> first | rfl | exact absurd rfl hj
  | n + 6 => simp [packetSet] at h

/-- Settles O21: FEED writes one byte of `buf`, and keeps what its variant does not use. -/
theorem feedKeepsTheRegistersOfOtherVariants :
    Obligations.FeedKeepsTheRegistersOfOtherVariants := by
  unfold Obligations.FeedKeepsTheRegistersOfOtherVariants
  intro b s t h
  have hf := execFeed_byteCounted h
  have hk := execFeed_unusedKept h
  exact ⟨fun _ hne => packetGet_packetSet_ne hf.buf hne, hk.streak, hk.pend, hk.slots, hk.semiMt,
    hk.focalPressed, hf.sessionLive⟩

/-! ### The invariant -/

/-- A V1 packet leaves `streak` at most 2 (R34, R152). -/
theorem nextStreak_toNat_le {streak : BitVec 2} (workaround : Bool) (fingers : Nat)
    (h : streak.toNat ≤ streakMax) :
    (nextStreak workaround fingers streak).toNat ≤ streakMax := by
  unfold nextStreak
  split_ifs with _ _ hlt
  · unfold streakMax at hlt ⊢
    bv_omega
  · exact h
  · exact Nat.zero_le _
  · exact h

theorem v1Packet_streak (fingers : Nat) (x y : BitVec 10) (left right : Bool)
    (forward back : Option Bool) (s : State) :
    (v1Packet fingers x y left right forward back s).streak =
      nextStreak s.cfg.jumpyCursorWorkaround fingers s.streak := by
  obtain ⟨-, h⟩ | ⟨-, h⟩ := v1Packet_cases fingers x y left right forward back s <;> rw [h] <;> rfl

/-- A packet operation keeps `streak` at most 2: only a V1 packet writes it (R34). -/
theorem exec_streak_le {i : Instr} {hw : HwVersion} {oe : Option Era} {s t : State}
    (hc : contextOf i = some (hw, oe)) (hk : s.streak.toNat ≤ streakMax)
    (h : exec i s = .next t) : t.streak.toNat ≤ streakMax := by
  by_cases hv : hw = .v1
  · subst hv
    obtain ⟨_, _, _, _, _, _, _, he⟩ := exec_eq_v1Packet hc s
    cases he.symm.trans h
    rw [v1Packet_streak]
    exact nextStreak_toNat_le _ _ hk
  · rw [(exec_unusedKept hc h).streak hv]
    exact hk

theorem dispatch_streak_le {s t : State} (hk : s.streak.toNat ≤ streakMax)
    (h : dispatch s = .next t) : t.streak.toNat ≤ streakMax := by
  obtain rfl | ⟨i, oe, hc, he⟩ := dispatch_next_cases h
  · exact hk
  · exact exec_streak_le hc hk he

theorem execFeed_streak_le {b : Byte} {s t : State} (hk : s.streak.toNat ≤ streakMax)
    (h : execFeed b s = .next t) : t.streak.toNat ≤ streakMax := by
  obtain ⟨-, -, p, -, ⟨-, hd⟩ | ⟨-, rfl⟩⟩ := execFeed_next h
  · exact dispatch_streak_le (s := (s.withBuf p).withAcc 0) hk hd
  · exact hk

/-- FEED keeps the invariant: it counts modulo `S`, and only V1 moves the streak. -/
theorem execFeed_inv {b : Byte} {s t : State} (hi : s.Inv) (h : execFeed b s = .next t) : t.Inv := by
  have hf := execFeed_byteCounted h
  refine ⟨?_, execFeed_streak_le hi.2 h⟩
  rw [hf.accCount, hf.cfg]
  exact Nat.mod_lt _ (packetSize_pos _)

/-- INIT establishes the invariant, whatever the registers held (R45). -/
theorem execInit_inv {c : SessionConfig} {s t : State} (h : execInit c s = .next t) : t.Inv := by
  obtain ⟨-, rfl⟩ := execInit_next h
  exact ⟨packetSize_pos _, Nat.zero_le _⟩

/-- The operation of every port event keeps the invariant. -/
theorem exec_decodeEvent_inv {e : Event} {s t : State} (hi : s.Inv)
    (h : exec (decodeEvent e) s = .next t) : t.Inv := by
  cases e with
  | byte b => exact execFeed_inv hi h
  | init c => exact execInit_inv h
  | disconnect =>
    obtain ⟨-, rfl⟩ := execDisconnect_next h
    exact hi
  | setParitycheck v =>
    obtain ⟨-, rfl⟩ := execSetParitycheck_next h
    exact hi
  | setDebug v =>
    obtain ⟨-, rfl⟩ := execSetDebug_next h
    exact hi

/-- Settles O12, by the two cases of the event list. -/
theorem everyStepKeepsTheInvariant : Obligations.EveryStepKeepsTheInvariant := by
  unfold Obligations.EveryStepKeepsTheInvariant
  intro s t hi h
  cases hin : s.input with
  | nil =>
    cases (step_of_input_nil hin).symm.trans h
    exact hi
  | cons e es =>
    rw [step_of_input_cons hin] at h
    exact exec_decodeEvent_inv (s := s.withInput es) hi h

/-- Settles O13: at power-on and after INIT both counters are zero. -/
theorem resetSatisfiesTheInvariant : Obligations.ResetSatisfiesTheInvariant := by
  unfold Obligations.ResetSatisfiesTheInvariant
  exact ⟨⟨packetSize_pos _, Nat.zero_le _⟩, fun _ _ _ h => execInit_inv h⟩

end Sys2Proof.Machine
end

section
/-! What no operation reads, what a live session fixes, and the bounds that V3 frames obey (R30, R31,
R35, R44, R196). -/

namespace Sys2Proof.Machine

/-! ### The control registers of a live session -/

/-- The operation of a port event on a live session writes no control register but `paritycheck` and
`debug` (R31, R253, R254). -/
theorem exec_decodeEvent_cfg {e : Event} {s t : State} (hl : s.sessionLive = true)
    (h : exec (decodeEvent e) s = .next t) :
    t.cfg = { s.cfg with paritycheck := t.cfg.paritycheck, debug := t.cfg.debug } := by
  cases e with
  | byte b => rw [(execFeed_byteCounted h).cfg]
  | init c =>
    obtain ⟨hdead, -⟩ := execInit_next h
    simp [hl] at hdead
  | disconnect =>
    obtain ⟨-, rfl⟩ := execDisconnect_next h
    rfl
  | setParitycheck v =>
    obtain ⟨-, rfl⟩ := execSetParitycheck_next h
    rfl
  | setDebug v =>
    obtain ⟨-, rfl⟩ := execSetDebug_next h
    rfl

/-- Settles O19: a packet operation stays in its session, FEED counts its byte there, and the host
operations of a live session write two flags. -/
theorem configurationIsFixedInASession : Obligations.ConfigurationIsFixedInASession := by
  unfold Obligations.ConfigurationIsFixedInASession
  refine ⟨fun i s t hl h => ?_, fun b s t h => (execFeed_byteCounted h).cfg⟩
  cases hp : i.isPacketOp
  · obtain ⟨e, rfl⟩ := exists_event_of_isPacketOp_eq_false hp
    exact exec_decodeEvent_cfg hl h
  · rw [(exec_packetOp_sameSession hp h).cfg]

/-! ### The bounds of V3 frames -/

/-- The bounds check passes exactly when neither coordinate exceeds its bound (R196). -/
theorem beyondBounds_eq_false {c : SessionConfig} {p : Pos} :
    beyondBounds c p = false ↔ p.x.toNat ≤ c.xMax.toNat ∧ p.y.toNat ≤ c.yMax.toNat := by
  simp [beyondBounds]

/-- A position, if there is one, passes the bounds check. -/
def PosWithin (c : SessionConfig) (pos : Option Pos) : Prop :=
  ∀ p, pos = some p → beyondBounds c p = false

theorem posWithin_getElem? {c : SessionConfig} {positions : List Pos}
    (h : positions.any (beyondBounds c) = false) (k : Nat) : PosWithin c positions[k]? := by
  intro p hp
  simpa using List.any_eq_false.mp h p (List.mem_of_getElem? hp)

theorem PosWithin.x {c : SessionConfig} {pos : Option Pos} (h : PosWithin c pos) :
    coordWithin c.xMax (pos.map Pos.x) := by
  intro a ha
  obtain ⟨p, hp, rfl⟩ := Option.map_eq_some_iff.mp ha
  exact (beyondBounds_eq_false.mp (h p hp)).1

theorem PosWithin.y {c : SessionConfig} {pos : Option Pos} (h : PosWithin c pos) :
    coordWithin c.yMax (pos.map Pos.y) := by
  intro a ha
  obtain ⟨p, hp, rfl⟩ := Option.map_eq_some_iff.mp ha
  exact (beyondBounds_eq_false.mp (h p hp)).2

/-- A slot report carries no coordinate, or those of its position (R233). -/
theorem semiMtReport_within {c : SessionConfig} {pos : Option Pos} (h : PosWithin c pos)
    (i : Fin 5) (active : Bool) :
    coordWithin c.xMax (semiMtReport i active pos).x ∧
      coordWithin c.yMax (semiMtReport i active pos).y := by
  cases active
  · exact ⟨nofun, nofun⟩
  · exact ⟨h.x, h.y⟩

/-- A semi-MT frame lies within the bounds when the positions it is built from do. -/
theorem semiMtFrame_within {c : SessionConfig} {pos1 pos2 legacy : Option Pos}
    (h1 : PosWithin c pos1) (h2 : PosWithin c pos2) (hlegacy : PosWithin c legacy)
    (reportsPressure : Bool) (fingers : Nat) (pressure width : Byte) (left right : Bool) :
    (semiMtFrame reportsPressure fingers pos1 pos2 legacy pressure width left right).within c := by
  refine ⟨hlegacy.x, hlegacy.y, fun r hr => ?_⟩
  simp only [semiMtFrame, semiMtReports, List.mem_cons, List.not_mem_nil, or_false] at hr
  obtain rfl | rfl := hr
  · exact semiMtReport_within h1 ..
  · exact semiMtReport_within h2 ..

/-- The frame on the ports, if there is one, lies within the bounds. -/
def FrameWithin (c : SessionConfig) (r : StepResult) : Prop := ∀ f, r.frame = some f → f.within c

theorem frameWithin_of_none {r : StepResult} (h : r.frame = none) (c : SessionConfig) :
    FrameWithin c r := by
  intro f hf
  rw [h] at hf
  cases hf

/-- A V3 packet is rejected, or every position of its frame has passed the check (R196). -/
theorem v3Packet_frameWithin (fingers : Nat) (positions : List Pos) (pressure : Byte)
    (width : BitVec 4) (left right : Bool) (oc : OutcomeCode) (s : State) :
    FrameWithin s.cfg (v3Packet fingers positions pressure width left right oc s).out := by
  obtain ⟨-, h⟩ | ⟨hin, h⟩ :=
    v3Packet_cases fingers positions pressure width left right oc s <;> rw [h]
  · exact frameWithin_of_none rfl _
  · intro f hf
    cases hf
    exact semiMtFrame_within (posWithin_getElem? hin 0) (posWithin_getElem? hin 1)
      (posWithin_getElem? hin 0) ..

/-- A V3 operation presents no frame outside the bounds. -/
theorem exec_v3_frameWithin {i : Instr} {oe : Option Era} {s t : State}
    (hc : contextOf i = some (.v3, oe)) (h : exec i s = .next t) : FrameWithin s.cfg t.out := by
  obtain ⟨p, he⟩ | ⟨_, _, _, _, _, _, _, he⟩ := exec_eq_v3Head_or_v3Packet hc s <;>
    cases he.symm.trans h
  · exact frameWithin_of_none rfl _
  · exact v3Packet_frameWithin _ _ _ _ _ _ _ _

theorem dispatch_v3_frameWithin {s t : State} (hv : s.cfg.hwVersion = .v3)
    (h : dispatch s = .next t) : FrameWithin s.cfg t.out := by
  obtain rfl | ⟨i, oe, hc, he⟩ := dispatch_next_cases h
  · exact frameWithin_of_none rfl _
  · exact exec_v3_frameWithin (hv ▸ hc) he

theorem execFeed_v3_frameWithin {b : Byte} {s t : State} (hv : s.cfg.hwVersion = .v3)
    (h : execFeed b s = .next t) : FrameWithin s.cfg t.out := by
  obtain ⟨-, -, p, -, ⟨-, hd⟩ | ⟨-, rfl⟩⟩ := execFeed_next h
  · exact dispatch_v3_frameWithin (s := (s.withBuf p).withAcc 0) hv hd
  · exact frameWithin_of_none rfl _

/-- Of the port events only a byte presents a frame at all. -/
theorem exec_decodeEvent_v3_frameWithin {e : Event} {s t : State} (hv : s.cfg.hwVersion = .v3)
    (h : exec (decodeEvent e) s = .next t) : FrameWithin s.cfg t.out := by
  cases e with
  | byte b => exact execFeed_v3_frameWithin hv h
  | init c =>
    obtain ⟨-, rfl⟩ := execInit_next h
    exact frameWithin_of_none rfl _
  | disconnect =>
    obtain ⟨-, rfl⟩ := execDisconnect_next h
    exact frameWithin_of_none rfl _
  | setParitycheck v =>
    obtain ⟨-, rfl⟩ := execSetParitycheck_next h
    exact frameWithin_of_none rfl _
  | setDebug v =>
    obtain ⟨-, rfl⟩ := execSetDebug_next h
    exact frameWithin_of_none rfl _

/-- Settles O18: the only V3 packets with a frame are those whose positions all passed the check. -/
theorem v3FramesLieWithinTheBounds : Obligations.V3FramesLieWithinTheBounds := by
  unfold Obligations.V3FramesLieWithinTheBounds
  intro s t f hv _ h hf
  cases hin : s.input with
  | nil =>
    cases (step_of_input_nil hin).symm.trans h
    cases hf
  | cons e es =>
    rw [step_of_input_cons hin] at h
    exact exec_decodeEvent_v3_frameWithin (s := s.withInput es) hv h f hf

/-! ### What no operation reads -/

/-- The state with the two registers changed that packet operations do not read: `debug`, and, where
nothing is pending, the pending bytes (R30, R35). -/
def State.mapUnread (d : Bool → Bool) (q : Packet → Packet) (s : State) : State :=
  { s with cfg := { s.cfg with debug := d s.cfg.debug }, pend := q s.pend }

/-- The guard of a V1 packet and both its ends read neither register. -/
theorem v1Packet_mapUnread (d : Bool → Bool) (q : Packet → Packet) (fingers : Nat)
    (x y : BitVec 10) (left right : Bool) (forward back : Option Bool) (s : State) :
    v1Packet fingers x y left right forward back (s.mapUnread d q) =
      (v1Packet fingers x y left right forward back s).mapUnread d q :=
  Eq.symm (apply_ite (State.mapUnread d q) _ _ _)

/-- Nor do those of a V3 packet. -/
theorem v3Packet_mapUnread (d : Bool → Bool) (q : Packet → Packet) (fingers : Nat)
    (positions : List Pos) (pressure : Byte) (width : BitVec 4) (left right : Bool)
    (oc : OutcomeCode) (s : State) :
    v3Packet fingers positions pressure width left right oc (s.mapUnread d q) =
      (v3Packet fingers positions pressure width left right oc s).mapUnread d q :=
  Eq.symm (apply_ite (State.mapUnread d q) _ _ _)

theorem execFocAbs_mapUnread (d : Bool → Bool) (q : Packet → Packet) (o : FocAbsForm) (s : State) :
    execFocAbs o (s.mapUnread d q) = mapNext (State.mapUnread d q) (execFocAbs o s) := by
  unfold execFocAbs
  split <;> rfl

/-- A TAIL reads the pending bytes only while they are valid (R193). -/
theorem execV3Tail_mapUnread (d : Bool → Bool) {q : Packet → Packet} (o : V3TailForm) {s : State}
    (hq : q = id ∨ s.pendValid = false) :
    execV3Tail o (s.mapUnread d q) = mapNext (State.mapUnread d q) (execV3Tail o s) := by
  cases hv : s.pendValid
  · have hv' : (s.mapUnread d q).pendValid = false := hv
    simp only [execV3Tail, hv, hv', Bool.false_eq_true, if_false]
    exact congrArg Host.Outcome.next (v3Packet_mapUnread ..)
  · obtain rfl := hq.resolve_right (by simp [hv])
    have hv' : (s.mapUnread d id).pendValid = true := hv
    simp only [execV3Tail, hv, hv', if_true]
    exact congrArg Host.Outcome.next (v3Packet_mapUnread ..)

/-- A packet operation reads no `debug`, and no pending bytes unless a packet is pending; a HEAD
writes them. -/
theorem exec_packetOp_mapUnread {i : Instr} (hi : i.isPacketOp = true) (d : Bool → Bool)
    {q : Packet → Packet} {s : State}
    (hq : q = id ∨ (∀ p, i ≠ .v3Head p) ∧ s.pendValid = false) :
    exec i (s.mapUnread d q) = mapNext (State.mapUnread d q) (exec i s) := by
  cases i
  case v1Old o => exact congrArg Host.Outcome.next (v1Packet_mapUnread ..)
  case v1New o => exact congrArg Host.Outcome.next (v1Packet_mapUnread ..)
  case v3F0 o => exact congrArg Host.Outcome.next (v3Packet_mapUnread ..)
  case v3F1 o => exact congrArg Host.Outcome.next (v3Packet_mapUnread ..)
  case v3F3 o => exact congrArg Host.Outcome.next (v3Packet_mapUnread ..)
  case v3Head p =>
    obtain rfl | ⟨hp, -⟩ := hq
    · rfl
    · exact absurd rfl (hp p)
  case v3Tail o => exact execV3Tail_mapUnread d o (hq.imp_right And.right)
  case focAbs o => exact execFocAbs_mapUnread ..
  case feed | init | disconnect | setParitycheck | setDebug => cases hi
  all_goals rfl

/-- Settles O40: with nothing pending only a HEAD touches the pending bytes. -/
theorem stalePendingBytesAreNeverRead : Obligations.StalePendingBytesAreNeverRead := by
  unfold Obligations.StalePendingBytesAreNeverRead
  intro i s q hi hhead hv
  exact exec_packetOp_mapUnread hi id (q := fun _ => q) (.inr ⟨hhead, hv⟩)

/-- `debug <- d`. -/
def State.withDebug (d : Bool) (s : State) : State := s.mapUnread (fun _ => d) id

/-- The dispatch of a packet does not read `debug`. -/
theorem dispatch_withDebug (d : Bool) (s : State) :
    dispatch (s.withDebug d) = mapNext (State.withDebug d) (dispatch s) := by
  obtain ⟨hp, he⟩ | ⟨hp, he⟩ := dispatch_cases s
  · have he' : dispatch (s.withDebug d) = .next (raiseOutcome .v1ParityDrop (s.withDebug d)) :=
      if_pos hp
    rw [he, he']
    rfl
  · have hop := decodePacket_isPacketOp s.cfg.hwVersion s.era s.buf
    have he' : dispatch (s.withDebug d) =
        exec (decodePacket s.cfg.hwVersion s.era s.buf) (s.withDebug d) :=
      (if_neg (ne_true_of_eq_false hp)).trans (runPacket_eq_exec hop _)
    rw [he, he']
    exact exec_packetOp_mapUnread hop _ (.inl rfl)

theorem writeBuf_withDebug (d : Bool) (s : State) (k : Nat) (b : Byte) :
    writeBuf (s.withDebug d) k b = (writeBuf s k b).map (State.withDebug d) := by
  by_cases hk : k < packetSize s.cfg.hwVersion
  · obtain ⟨p, hp, hw⟩ := writeBuf_of_lt s b hk
    obtain ⟨p', hp', hw'⟩ := writeBuf_of_lt (s.withDebug d) b hk
    cases hp.symm.trans hp'
    rw [hw, hw']
    rfl
  · rw [writeBuf_of_not_lt s b hk, writeBuf_of_not_lt (s.withDebug d) b hk]
    rfl

/-- FEED does not read `debug`. -/
theorem execFeed_withDebug (d : Bool) (b : Byte) (s : State) :
    execFeed b (s.withDebug d) = mapNext (State.withDebug d) (execFeed b s) := by
  have hwrite := writeBuf_withDebug d s s.accCount.toNat b
  have hlive : (s.withDebug d).sessionLive = s.sessionLive := rfl
  have hacc : (s.withDebug d).accCount = s.accCount := rfl
  have hcompletes : completes (s.withDebug d) = completes s := rfl
  simp only [execFeed, hlive, hacc, hcompletes, hwrite]
  cases s.sessionLive with
  | false => rfl
  | true =>
    cases writeBuf s s.accCount.toNat b with
    | none => rfl
    | some t =>
      cases completes s with
      | false => rfl
      | true => exact dispatch_withDebug d (t.withAcc 0)

/-- Of the operations of the port events only INIT and SET_DEBUG make a difference to `debug`. -/
theorem exec_decodeEvent_withDebug (d : Bool) {e : Event} (s : State)
    (hinit : ∀ c, decodeEvent e ≠ .init c) (hdebug : ∀ v, decodeEvent e ≠ .setDebug v) :
    exec (decodeEvent e) (s.withDebug d) =
      mapNext (State.withDebug d) (exec (decodeEvent e) s) := by
  cases e with
  | byte b => exact execFeed_withDebug d b s
  | init c => exact absurd rfl (hinit c)
  | disconnect => exact Eq.symm (apply_ite (mapNext (State.withDebug d)) _ _ _)
  | setParitycheck v => exact Eq.symm (apply_ite (mapNext (State.withDebug d)) _ _ _)
  | setDebug v => exact absurd rfl (hdebug v)

/-- Settles O22: a packet operation, FEED and the other two host operations read no `debug`. -/
theorem debugFlagHasNoEffect : Obligations.DebugFlagHasNoEffect := by
  unfold Obligations.DebugFlagHasNoEffect
  intro i s d hinit hdebug
  cases hp : i.isPacketOp
  · obtain ⟨e, rfl⟩ := exists_event_of_isPacketOp_eq_false hp
    exact exec_decodeEvent_withDebug d s hinit hdebug
  · exact exec_packetOp_mapUnread hp (fun _ => d) (.inl rfl)

end Sys2Proof.Machine
end

section
/-! INIT's next state, and what a write of one unit of an index space leaves in every unit (R60, R250). -/

namespace Sys2Proof.Machine

/-- Settles O52: INIT has one next state, written out. -/
theorem initResetsTheBlock : Obligations.InitResetsTheBlock := by
  unfold Obligations.InitResetsTheBlock
  intro c s hl
  exact if_neg (ne_true_of_eq_false hl)

/-! ### One control register -/

/-- The width in bits of control register `k` (R21 to R30). -/
def cfgWidth (k : Nat) : Option Nat := [2, 24, 16, 16, 16, 1, 1, 1, 1, 1][k]?

theorem hwCode_hwOfCode (n : Nat) : hwCode (hwOfCode n) = n % 4 := by
  obtain h | h | h | h : n % 4 = 0 ∨ n % 4 = 1 ∨ n % 4 = 2 ∨ n % 4 = 3 := by omega
  all_goals simp [hwOfCode, hwCode, h]

theorem testBit_zero_toNat (n : Nat) : (n.testBit 0).toNat = n % 2 := by
  rw [Nat.toNat_testBit, pow_zero, Nat.div_one]

/-- A control register holds the number written, cut to the register's width. -/
theorem cfgGet_cfgSet_same {c c' : SessionConfig} {k n : Nat} (h : cfgSet c k n = some c') :
    ∃ w, cfgWidth k = some w ∧ cfgGet c' k = some (n % 2 ^ w) := by
  match k with
  | 0 => cases h; exact ⟨2, rfl, congrArg some (hwCode_hwOfCode n)⟩
  | 1 => cases h; exact ⟨24, rfl, congrArg some (BitVec.toNat_ofNat n 24)⟩
  | 2 | 3 | 4 => cases h; exact ⟨16, rfl, congrArg some (BitVec.toNat_ofNat n 16)⟩
  | 5 | 6 | 7 | 8 | 9 => cases h; exact ⟨1, rfl, congrArg some (testBit_zero_toNat n)⟩
  | k + 10 => cases h

/-- Writing a control register keeps the others. -/
theorem cfgGet_cfgSet_ne {c c' : SessionConfig} {k j n : Nat} (h : cfgSet c k n = some c')
    (hj : j ≠ k) : cfgGet c' j = cfgGet c j := by
  match k with
  | 0 | 1 | 2 | 3 | 4 | 5 | 6 | 7 | 8 | 9 =>
    cases h
    unfold cfgGet
    split <;> first | rfl | exact absurd rfl hj
  | k + 10 => cases h

/-! ### One unit -/

/-- Everything that a write of one unit can do: one clause for each space that can be written. -/
theorem writeUnit_cases {s t : State} {sp : Space} {k : Nat} {v : StorageUnit}
    (h : writeUnit s sp k v = some t) :
    k < spaceSize s.cfg.hwVersion sp ∧
    ((sp = .buf ∧ ∃ b p, v = .byte b ∧ packetSet s.buf k b = some p ∧ t = s.withBuf p) ∨
     (sp = .pend ∧ ∃ b p, v = .byte b ∧ packetSet s.pend k b = some p ∧ t = { s with pend := p }) ∨
     (sp = .slot ∧ ∃ e, ∃ hk : k < 5, v = .entry e ∧
        t = s.withSlots (setSlot s.slots ⟨k, hk⟩ e)) ∨
     (sp = .cfg ∧ ∃ n c, v = .reg n ∧ cfgSet s.cfg k n = some c ∧ t = s.withCfg c)) := by
  unfold writeUnit at h
  split at h
  case isFalse => cases h
  case isTrue hlt =>
    refine ⟨hlt, ?_⟩
    split at h
    case h_1 b =>
      obtain ⟨-, p, hp, ht⟩ := writeBuf_cases h
      exact .inl ⟨rfl, b, p, rfl, hp, ht⟩
    case h_2 b =>
      obtain ⟨p, hp, ht⟩ := Option.map_eq_some_iff.mp h
      exact .inr (.inl ⟨rfl, b, p, rfl, hp, ht.symm⟩)
    case h_3 e =>
      split at h
      case isTrue hk => exact .inr (.inr (.inl ⟨rfl, e, hk, rfl, (Option.some.inj h).symm⟩))
      case isFalse => cases h
    case h_4 n =>
      obtain ⟨c, hc, ht⟩ := Option.map_eq_some_iff.mp h
      exact .inr (.inr (.inr ⟨rfl, n, c, rfl, hc, ht.symm⟩))
    case h_5 => cases h

/-- Between the two states one unit has been written, with `u`: every other unit of every space and
every register outside the spaces is as before (R60, R72). -/
structure OneUnitWritten (sp : Space) (k : Nat) (u : StorageUnit) (s t : State) : Prop where
  same : unitAt t sp k = some u
  others : ∀ sp' k', ¬ (sp' = sp ∧ k' = k) → unitAt t sp' k' = unitAt s sp' k'
  frame : t = { s with buf := t.buf, pend := t.pend, slots := t.slots, cfg := t.cfg }

/-- The unit written is read back wherever a read is legal. -/
theorem OneUnitWritten.readUnit {sp : Space} {k : Nat} {u : StorageUnit} {s t : State}
    (h : OneUnitWritten sp k u s t) (hk : k < spaceSize t.cfg.hwVersion sp) :
    readUnit t sp k = some u :=
  (if_pos hk).trans h.same

theorem oneUnitWritten_buf {s : State} {k : Nat} {b : Byte} {p : Packet}
    (h : packetSet s.buf k b = some p) : OneUnitWritten .buf k (.byte b) s (s.withBuf p) where
  same := congrArg (Option.map StorageUnit.byte) (packetGet_packetSet_same h)
  others sp' k' hne := by
    cases sp'
    case buf =>
      exact congrArg (Option.map StorageUnit.byte) (packetGet_packetSet_ne h fun hk => hne ⟨rfl, hk⟩)
    all_goals rfl
  frame := rfl

theorem oneUnitWritten_pend {s : State} {k : Nat} {b : Byte} {p : Packet}
    (h : packetSet s.pend k b = some p) :
    OneUnitWritten .pend k (.byte b) s { s with pend := p } where
  same := congrArg (Option.map StorageUnit.byte) (packetGet_packetSet_same h)
  others sp' k' hne := by
    cases sp'
    case pend =>
      exact congrArg (Option.map StorageUnit.byte) (packetGet_packetSet_ne h fun hk => hne ⟨rfl, hk⟩)
    all_goals rfl
  frame := rfl

theorem oneUnitWritten_slot (s : State) {k : Nat} (hk : k < 5) (e : Slot) :
    OneUnitWritten .slot k (.entry e) s (s.withSlots (setSlot s.slots ⟨k, hk⟩ e)) where
  same := by simp [unitAt, setSlot, hk]
  others sp' k' hne := by
    cases sp'
    case slot =>
      have hk' : k ≠ k' := fun h => hne ⟨rfl, h.symm⟩
      simp [unitAt, setSlot, Vector.getElem?_set_ne, hk']
    all_goals rfl
  frame := rfl

theorem oneUnitWritten_cfg {s : State} {k n w : Nat} {c : SessionConfig}
    (h : cfgSet s.cfg k n = some c) (hget : cfgGet c k = some (n % 2 ^ w)) :
    OneUnitWritten .cfg k (.reg (n % 2 ^ w)) s (s.withCfg c) where
  same := congrArg (Option.map StorageUnit.reg) hget
  others sp' k' hne := by
    cases sp'
    case cfg => exact congrArg (Option.map StorageUnit.reg) (cfgGet_cfgSet_ne h fun hk => hne ⟨rfl, hk⟩)
    all_goals rfl
  frame := rfl

/-- Settles O60, by the four clauses of what a write can do: each writes one unit. -/
theorem aWrittenUnitIsReadBackAndOthersAreKept :
    Obligations.AWrittenUnitIsReadBackAndOthersAreKept := by
  unfold Obligations.AWrittenUnitIsReadBackAndOthersAreKept
  intro s t sp k v h
  obtain ⟨hlt, ⟨rfl, b, p, rfl, hp, rfl⟩ | ⟨rfl, b, p, rfl, hp, rfl⟩ | ⟨rfl, e, hk, rfl, rfl⟩ |
    ⟨rfl, n, c, rfl, hc, rfl⟩⟩ := writeUnit_cases h
  · have hw := oneUnitWritten_buf hp
    exact ⟨nofun, fun _ => hw.readUnit hlt, nofun, hw.others, hw.frame⟩
  · have hw := oneUnitWritten_pend hp
    exact ⟨nofun, fun _ => hw.readUnit hlt, nofun, hw.others, hw.frame⟩
  · have hw := oneUnitWritten_slot s hk e
    exact ⟨nofun, fun _ => hw.readUnit hlt, nofun, hw.others, hw.frame⟩
  · obtain ⟨w, hwidth, hget⟩ := cfgGet_cfgSet_same hc
    have hw := oneUnitWritten_cfg hc hget
    exact ⟨nofun, fun hne => absurd rfl hne,
      fun _ => ⟨n, w, rfl, hwidth, hw.readUnit hlt⟩, hw.others, hw.frame⟩

end Sys2Proof.Machine
end

section
/-! Reads of the index spaces, and the step that completes a packet (R60, R130, R133). -/

namespace Sys2Proof.Machine

/-! ### The legal indices of a read -/

/-- Six bytes have a byte at every index below six. -/
theorem packetGet_map_isSome_of_lt (p : Packet) {k : Nat} (h : k < 6) :
    ((packetGet p k).map StorageUnit.byte).isSome = true := by
  match k, h with
  | 0, _ | 1, _ | 2, _ | 3, _ | 4, _ | 5, _ => rfl

/-- No variant may name an entry beyond the slot file. -/
theorem slotSpaceSize_le (hw : HwVersion) : slotSpaceSize hw ≤ slotFileLen := by
  cases hw <;> decide

/-- Within a space's size for the session there is a unit at every index. -/
theorem unitAt_isSome_of_lt {s : State} {sp : Space} {k : Nat}
    (h : k < spaceSize s.cfg.hwVersion sp) : (unitAt s sp k).isSome = true := by
  cases sp with
  | buf => exact packetGet_map_isSome_of_lt s.buf (h.trans_le (packetSize_le _))
  | pend => exact packetGet_map_isSome_of_lt s.pend h
  | slot =>
    have hk : k < 5 := h.trans_le (slotSpaceSize_le _)
    simp [unitAt, hk]
  | parity => simp [unitAt, show k < 256 from h]
  | cfg =>
    match k, h with
    | 0, _ | 1, _ | 2, _ | 3, _ | 4, _ | 5, _ | 6, _ | 7, _ | 8, _ | 9, _ => rfl

/-- A read is defined exactly below the space's size for the session (R60). -/
theorem readUnit_isSome_iff (s : State) (sp : Space) (k : Nat) :
    (readUnit s sp k).isSome = true ↔ k < spaceSize s.cfg.hwVersion sp := by
  by_cases h : k < spaceSize s.cfg.hwVersion sp
  · simp [readUnit, h, unitAt_isSome_of_lt h]
  · simp [readUnit, h]

/-- The size of BUF, as the table of spaces gives it (R60). -/
theorem packetSize_eq_ite (hw : HwVersion) : packetSize hw = if hw = .v1 then 4 else 6 := by
  cases hw <;> rfl

/-- The size of SLOT, as the table of spaces gives it (R60). -/
theorem slotSpaceSize_eq_ite (hw : HwVersion) :
    slotSpaceSize hw = if hw = .v2 ∨ hw = .v3 then 2 else 5 := by
  cases hw <;> rfl

/-- Settles O59: a read is defined below the space's size, and the sizes are the table's. -/
theorem readsAreDefinedExactlyOnLegalIndices :
    Obligations.ReadsAreDefinedExactlyOnLegalIndices := by
  unfold Obligations.ReadsAreDefinedExactlyOnLegalIndices
  intro s sp k
  rw [readUnit_isSome_iff]
  cases sp with
  | buf => simp only [spaceSize, packetSize_eq_ite]
  | slot => simp only [spaceSize, slotSpaceSize_eq_ite]
  | pend | parity | cfg => rfl

/-! ### The step that completes a packet -/

/-- Writing the last byte of a packet leaves the bytes before it, then the byte written. -/
theorem packetBytes_packetSet_last {hw : HwVersion} {p q : Packet} {k : Nat} {b : Byte}
    (h : packetSet p k b = some q) (hk : k + 1 = packetSize hw) :
    packetBytes hw q = (packetBytes hw p).take k ++ [b] := by
  obtain rfl : k = packetSize hw - 1 := by omega
  cases hw <;> cases h <;> rfl

/-- FEED of the last byte dispatches the packet made of the buffered bytes and that byte (R130). -/
theorem execFeed_last_eq_dispatch {s : State} (b : Byte) (hl : s.sessionLive = true)
    (hlast : s.accCount.toNat + 1 = packetSize s.cfg.hwVersion) :
    ∃ p, packetBytes s.cfg.hwVersion p = bufferedBytes s ++ [b] ∧
      execFeed b s = dispatch ((s.withBuf p).withAcc 0) := by
  obtain ⟨p, hp, ⟨-, he⟩ | ⟨hc, -⟩⟩ := execFeed_of_legal b hl (by omega)
  · exact ⟨p, packetBytes_packetSet_last hp hlast, he⟩
  · simp [completes, hlast] at hc

/-- Without the V1 validator the dispatch performs the operation the packet selects (R133, R142). -/
theorem dispatch_eq_exec {s : State} (h : s.cfg.hwVersion = .v1 → s.cfg.paritycheck = false) :
    dispatch s = exec (decodePacket s.cfg.hwVersion s.era s.buf) s := by
  obtain ⟨hdrop, -⟩ | ⟨-, he⟩ := dispatch_cases s
  · simp only [parityDrops, Bool.and_eq_true, beq_iff_eq] at hdrop
    obtain ⟨⟨hv1, hcheck⟩, -⟩ := hdrop
    simp [h hv1] at hcheck
  · exact he

/-- The bytes of one packet decode to the operation that the packet selects, and to no other. -/
theorem decodePacket_of_decodeBytes {hw : HwVersion} {era : Era} {p : Packet} {i : Instr}
    (h : decodeBytes hw era (packetBytes hw p) = .ok (i, [])) : decodePacket hw era p = i := by
  have hdec := decodeBytes_packetBytes hw era p []
  rw [List.append_nil, h] at hdec
  cases hdec
  rfl

/-- Settles O9: the step is FEED of the last byte, whose dispatch performs the decoded operation. -/
theorem completingStepRunsTheDecodedInstruction :
    Obligations.CompletingStepRunsTheDecodedInstruction := by
  unfold Obligations.CompletingStepRunsTheDecodedInstruction
  intro s b es i hin hl hlast hcheck hdec
  obtain ⟨p, hbytes, hfeed⟩ := execFeed_last_eq_dispatch (s := s.withInput es) b hl hlast
  have hi : decodePacket s.cfg.hwVersion s.era p = i :=
    decodePacket_of_decodeBytes ((congrArg (decodeBytes _ _) hbytes).trans hdec)
  refine ⟨p, hbytes, ?_⟩
  calc step s
      = execFeed b (s.withInput es) := step_of_input_cons hin
    _ = dispatch (((s.withInput es).withBuf p).withAcc 0) := hfeed
    _ = exec (decodePacket s.cfg.hwVersion s.era p) (((s.withInput es).withBuf p).withAcc 0) :=
        dispatch_eq_exec hcheck
    _ = exec i { s with buf := p, accCount := 0, input := es } := by rw [hi]; rfl

end Sys2Proof.Machine
end

section
/-! The fields of a packet as columns of bits: where the encoder writes a field the decoder reads it
back (R90 to R104, R120), and what the decoder makes of each value of the selector bits (R110). -/

namespace Sys2Proof

/-! ### Fields as columns of bits -/

theorem byteOfBits_getLsbD_eq_getElem? (b7 b6 b5 b4 b3 b2 b1 b0 : Bool) (i : Nat) :
    (byteOfBits b7 b6 b5 b4 b3 b2 b1 b0).getLsbD i =
      ([b0, b1, b2, b3, b4, b5, b6, b7][i]?).getD false := by
  rw [byteOfBits_getLsbD]
  match i with
  | 0 | 1 | 2 | 3 | 4 | 5 | 6 | 7 => rfl
  | n + 8 => rfl

/-- Columns of a byte that hold consecutive bits of a field are read as that part of the field. -/
theorem extractLsb_byteOfBits {b7 b6 b5 b4 b3 b2 b1 b0 : Bool} {hi lo k w : Nat} {v : BitVec w}
    (h : ([b0, b1, b2, b3, b4, b5, b6, b7].drop lo).take (hi - lo + 1) =
      (List.range (hi - lo + 1)).map fun j => v.getLsbD (k + j)) :
    (byteOfBits b7 b6 b5 b4 b3 b2 b1 b0).extractLsb hi lo = v.extractLsb' k (hi - lo + 1) := by
  refine BitVec.eq_of_getLsbD_eq fun j hj => ?_
  have hbit : [b0, b1, b2, b3, b4, b5, b6, b7][lo + j]? = some (v.getLsbD (k + j)) := by
    simpa [List.getElem?_take, hj] using congrArg (·[j]?) h
  rw [BitVec.getLsbD_extractLsb', BitVec.extractLsb, BitVec.getLsbD_extractLsb',
    byteOfBits_getLsbD_eq_getElem?, hbit, Option.getD_some]

/-- Columns of a byte that hold a whole field are read as the field. -/
theorem extractLsb_byteOfBits_eq_self {b7 b6 b5 b4 b3 b2 b1 b0 : Bool} {hi lo : Nat}
    {v : BitVec (hi - lo + 1)}
    (h : ([b0, b1, b2, b3, b4, b5, b6, b7].drop lo).take (hi - lo + 1) =
      (List.range (hi - lo + 1)).map fun j => v.getLsbD (0 + j)) :
    (byteOfBits b7 b6 b5 b4 b3 b2 b1 b0).extractLsb hi lo = v := by
  rw [extractLsb_byteOfBits h, BitVec.extractLsb'_eq_self]

/-- A field of two parts is its high part before its low part (R11, R67). -/
theorem append_eq_of_parts {m n : Nat} {u : BitVec m} {l : BitVec n} {v : BitVec (m + n)}
    (hu : u = v.extractLsb' n m) (hl : l = v.extractLsb' 0 n) : u ++ l = v := by
  rw [hu, hl, BitVec.extractLsb'_append_extractLsb'_eq_extractLsb' (by omega),
    BitVec.extractLsb'_eq_self]

/-- A field whose low part is a byte of its own. -/
theorem append_lowByte {m : Nat} {u : BitVec m} {v : BitVec (m + 8)}
    (hu : u = v.extractLsb' 8 m) : u ++ lowByte v = v := by
  refine append_eq_of_parts hu (BitVec.eq_of_getLsbD_eq fun j hj => ?_)
  simp only [lowByte, BitVec.getLsbD_setWidth, BitVec.getLsbD_extractLsb', Nat.zero_add]

/-- A field in the low columns of a byte, the other columns zero. -/
theorem extractLsb_setWidth_eq_self {n : Nat} (v : BitVec (n + 1)) (hn : n < 8) :
    (v.setWidth 8).extractLsb' 0 (n + 1) = v := by
  refine BitVec.eq_of_getLsbD_eq fun j hj => ?_
  simp only [BitVec.getLsbD_setWidth, BitVec.getLsbD_extractLsb', Nat.zero_add, hj,
    show j < 8 by omega, decide_true, Bool.true_and]

/-! ### The decoder, by the value of the selector bits -/

theorem bitVec2_cases (c : BitVec 2) : c = 0#2 ∨ c = 1#2 ∨ c = 2#2 ∨ c = 3#2 := by
  revert c; decide

section
variable {p : Packet}

theorem decodeV2_of_count_zero (h : Layout.count p = 0#2) :
    decodeV2 p = .v2F0 ⟨Layout.left p, Layout.right p⟩ := by
  simp [decodeV2, h]

theorem decodeV2_of_count_one (h : Layout.count p = 1#2) : decodeV2 p = .v2F1 (v2OneForm p) := by
  simp [decodeV2, h]

theorem decodeV2_of_count_two (h : Layout.count p = 2#2) : decodeV2 p = .v2F2 (v2TwoForm p) := by
  simp [decodeV2, h]

theorem decodeV2_of_count_three (h : Layout.count p = 3#2) (ho : Layout.v2Overflow p = false) :
    decodeV2 p = .v2F3 (v2OneForm p) := by
  simp [decodeV2, h, ho]

theorem decodeV2_of_overflow (h : Layout.count p = 3#2) (ho : Layout.v2Overflow p = true) :
    decodeV2 p = .v2F4 (v2OneForm p) := by
  simp [decodeV2, h, ho]

theorem decodeV3_of_count_zero (h : Layout.count p = 0#2) :
    decodeV3 p =
      .v3F0 ⟨Layout.left p, Layout.right p, Layout.pressure p, Layout.width p⟩ := by
  simp [decodeV3, h]

theorem decodeV3_of_count_one (h : Layout.count p = 1#2) : decodeV3 p = .v3F1 (v3OneForm p) := by
  simp [decodeV3, h]

theorem decodeV3_of_count_three (h : Layout.count p = 3#2) : decodeV3 p = .v3F3 (v3OneForm p) := by
  simp [decodeV3, h]

theorem decodeV3_of_head (h : Layout.count p = 2#2) (hh : Layout.v3H p = 1#2) :
    decodeV3 p = .v3Head p := by
  simp [decodeV3, h, hh]

theorem decodeV3_of_tail (h : Layout.count p = 2#2) (hh : Layout.v3H p ≠ 1#2) :
    decodeV3 p = .v3Tail (v3TailForm p) := by
  simp [decodeV3, h, hh]

theorem decodeFocal_of_touch (h : Layout.focKind p = 3#4) :
    decodeFocal p = .focTouch ⟨Layout.focPressedLow p, Layout.focBitmap p⟩ := by
  simp [decodeFocal, h]

theorem decodeFocal_of_abs (h : Layout.focKind p = 6#4) :
    decodeFocal p =
      .focAbs ⟨Layout.focPressedLow p, Layout.focFidx p, Layout.focX p, p.b3, p.b4, p.b5⟩ := by
  simp [decodeFocal, h]

theorem decodeFocal_of_rel (h : Layout.focKind p = 9#4) :
    decodeFocal p =
      .focRel ⟨Layout.focPressedRel p, Layout.focIdx1 p, p.b1, p.b2, Layout.focIdx2 p, p.b4,
        p.b5⟩ := by
  simp [decodeFocal, h]

theorem decodeFocal_of_unknown (h3 : Layout.focKind p ≠ 3#4) (h6 : Layout.focKind p ≠ 6#4)
    (h9 : Layout.focKind p ≠ 9#4) : decodeFocal p = .focUnk (Layout.focKind p) := by
  simp [decodeFocal, h3, h6, h9]

end

/-! ### The canonical packet of each format -/

theorem decodeV1Old_encodeV1Old (o : V1OldForm) : decodeV1Old (encodeV1Old o) = .v1Old o := by
  obtain ⟨left, right, p1, p2, p3, f, m, x, y, forward, back⟩ := o
  simp only [decodeV1Old, Instr.v1Old.injEq, V1OldForm.mk.injEq]
  exact ⟨byteOfBits_getLsbD .., byteOfBits_getLsbD .., byteOfBits_getLsbD ..,
    byteOfBits_getLsbD .., byteOfBits_getLsbD .., byteOfBits_getLsbD ..,
    extractLsb_byteOfBits_eq_self rfl,
    append_lowByte (extractLsb_byteOfBits rfl), append_lowByte (extractLsb_byteOfBits rfl),
    byteOfBits_getLsbD .., byteOfBits_getLsbD ..⟩

theorem decodeV1New_encodeV1New (o : V1NewForm) : decodeV1New (encodeV1New o) = .v1New o := by
  obtain ⟨left, right, p1, p2, p3, fingers, x, y⟩ := o
  simp only [decodeV1New, Instr.v1New.injEq, V1NewForm.mk.injEq]
  exact ⟨byteOfBits_getLsbD .., byteOfBits_getLsbD .., byteOfBits_getLsbD ..,
    byteOfBits_getLsbD .., byteOfBits_getLsbD .., extractLsb_byteOfBits_eq_self rfl,
    append_lowByte (extractLsb_byteOfBits rfl), append_lowByte (extractLsb_byteOfBits rfl)⟩

theorem decodeV2_encodeV2None (o : V2NoneForm) : decodeV2 (encodeV2None o) = .v2F0 o := by
  have hc : Layout.count (encodeV2None o) = 0#2 := extractLsb_byteOfBits_eq_self rfl
  rw [decodeV2_of_count_zero hc]
  obtain ⟨left, right⟩ := o
  simp only [Instr.v2F0.injEq, V2NoneForm.mk.injEq]
  exact ⟨byteOfBits_getLsbD .., byteOfBits_getLsbD ..⟩

theorem v2OneForm_encodeV2One (n1 n0 n4 : Bool) (o : V2OneForm) :
    v2OneForm (encodeV2One n1 n0 n4 o) = o := by
  obtain ⟨left, right, x, y, pressure, width⟩ := o
  simp only [v2OneForm, V2OneForm.mk.injEq]
  exact ⟨byteOfBits_getLsbD .., byteOfBits_getLsbD ..,
    append_lowByte (extractLsb_byteOfBits rfl), append_lowByte (extractLsb_byteOfBits rfl),
    append_eq_of_parts (extractLsb_byteOfBits rfl) (extractLsb_byteOfBits rfl),
    append_eq_of_parts (extractLsb_byteOfBits rfl) (extractLsb_byteOfBits rfl)⟩

theorem count_encodeV2One (n4 : Bool) (o : V2OneForm) (c : BitVec 2) :
    Layout.count (encodeV2One (c.getLsbD 1) (c.getLsbD 0) n4 o) = c :=
  extractLsb_byteOfBits_eq_self rfl

theorem v2Overflow_encodeV2One (n1 n0 n4 : Bool) (o : V2OneForm) :
    Layout.v2Overflow (encodeV2One n1 n0 n4 o) = n4 :=
  byteOfBits_getLsbD ..

theorem decodeV2_encodeV2One_one (o : V2OneForm) :
    decodeV2 (encodeV2One false true false o) = .v2F1 o :=
  (decodeV2_of_count_one (count_encodeV2One false o 1#2)).trans
    (congrArg Instr.v2F1 (v2OneForm_encodeV2One ..))

theorem decodeV2_encodeV2One_three (o : V2OneForm) :
    decodeV2 (encodeV2One true true false o) = .v2F3 o :=
  (decodeV2_of_count_three (count_encodeV2One false o 3#2) (v2Overflow_encodeV2One ..)).trans
    (congrArg Instr.v2F3 (v2OneForm_encodeV2One ..))

theorem decodeV2_encodeV2One_four (o : V2OneForm) :
    decodeV2 (encodeV2One true true true o) = .v2F4 o :=
  (decodeV2_of_overflow (count_encodeV2One true o 3#2) (v2Overflow_encodeV2One ..)).trans
    (congrArg Instr.v2F4 (v2OneForm_encodeV2One ..))

theorem decodeV2_encodeV2Two (o : V2TwoForm) : decodeV2 (encodeV2Two o) = .v2F2 o := by
  have hc : Layout.count (encodeV2Two o) = 2#2 := extractLsb_byteOfBits_eq_self rfl
  rw [decodeV2_of_count_two hc]
  obtain ⟨left, right, ax, ay, bx, bY⟩ := o
  simp only [v2TwoForm, Instr.v2F2.injEq, V2TwoForm.mk.injEq]
  exact ⟨byteOfBits_getLsbD .., byteOfBits_getLsbD ..,
    append_lowByte (extractLsb_byteOfBits rfl), append_lowByte (extractLsb_byteOfBits rfl),
    append_lowByte (extractLsb_byteOfBits rfl), append_lowByte (extractLsb_byteOfBits rfl)⟩

section
variable (n1 n0 h1 h0 left right : Bool) (x y : BitVec 12) (pressure : BitVec 8) (width : BitVec 4)

@[simp] theorem left_encodeV3 :
    Layout.left (encodeV3 n1 n0 h1 h0 left right x y pressure width) = left :=
  byteOfBits_getLsbD ..

@[simp] theorem right_encodeV3 :
    Layout.right (encodeV3 n1 n0 h1 h0 left right x y pressure width) = right :=
  byteOfBits_getLsbD ..

@[simp] theorem v3X_encodeV3 :
    Layout.v3X (encodeV3 n1 n0 h1 h0 left right x y pressure width) = x :=
  append_lowByte (extractLsb_byteOfBits rfl)

@[simp] theorem v3Y_encodeV3 :
    Layout.v3Y (encodeV3 n1 n0 h1 h0 left right x y pressure width) = y :=
  append_lowByte (extractLsb_byteOfBits rfl)

@[simp] theorem pressure_encodeV3 :
    Layout.pressure (encodeV3 n1 n0 h1 h0 left right x y pressure width) = pressure :=
  append_eq_of_parts (extractLsb_byteOfBits rfl) (extractLsb_byteOfBits rfl)

@[simp] theorem width_encodeV3 :
    Layout.width (encodeV3 n1 n0 h1 h0 left right x y pressure width) = width :=
  append_eq_of_parts (extractLsb_byteOfBits rfl) (extractLsb_byteOfBits rfl)

theorem count_encodeV3 (c : BitVec 2) :
    Layout.count (encodeV3 (c.getLsbD 1) (c.getLsbD 0) h1 h0 left right x y pressure width) = c :=
  extractLsb_byteOfBits_eq_self rfl

theorem v3H_encodeV3 (h : BitVec 2) :
    Layout.v3H (encodeV3 n1 n0 (h.getLsbD 1) (h.getLsbD 0) left right x y pressure width) = h :=
  extractLsb_byteOfBits_eq_self rfl

theorem v3OneForm_encodeV3 :
    v3OneForm (encodeV3 n1 n0 h1 h0 left right x y pressure width) =
      ⟨left, right, x, y, pressure, width⟩ := by
  simp [v3OneForm]

theorem v3TailForm_encodeV3 (h : BitVec 2) :
    v3TailForm (encodeV3 n1 n0 (h.getLsbD 1) (h.getLsbD 0) left right x y pressure width) =
      ⟨left, right, h, x, y, pressure, width⟩ := by
  simp only [v3TailForm, left_encodeV3, right_encodeV3, v3H_encodeV3, v3X_encodeV3, v3Y_encodeV3,
    pressure_encodeV3, width_encodeV3]

end

theorem decodeV3_encodeV3_zero (o : V3NoneForm) (x y : BitVec 12) :
    decodeV3 (encodeV3 false false false false o.left o.right x y o.pressure o.width) =
      .v3F0 o := by
  have hc := count_encodeV3 false false o.left o.right x y o.pressure o.width 0#2
  refine (decodeV3_of_count_zero hc).trans ?_
  simp

theorem decodeV3_encodeV3_one (o : V3OneForm) :
    decodeV3 (encodeV3 false true false false o.left o.right o.x o.y o.pressure o.width) =
      .v3F1 o :=
  (decodeV3_of_count_one (count_encodeV3 _ _ _ _ _ _ _ _ 1#2)).trans
    (congrArg Instr.v3F1 (v3OneForm_encodeV3 ..))

theorem decodeV3_encodeV3_three (o : V3OneForm) :
    decodeV3 (encodeV3 true true false false o.left o.right o.x o.y o.pressure o.width) =
      .v3F3 o :=
  (decodeV3_of_count_three (count_encodeV3 _ _ _ _ _ _ _ _ 3#2)).trans
    (congrArg Instr.v3F3 (v3OneForm_encodeV3 ..))

theorem decodeV3_encodeV3_tail (o : V3TailForm) (h : o.h ≠ 1#2) :
    decodeV3 (encodeV3 true false (o.h.getLsbD 1) (o.h.getLsbD 0) o.left o.right o.x o.y
      o.pressure o.width) = .v3Tail o :=
  (decodeV3_of_tail (count_encodeV3 _ _ _ _ _ _ _ _ 2#2) (by rwa [v3H_encodeV3])).trans
    (congrArg Instr.v3Tail (v3TailForm_encodeV3 ..))

theorem decodeFocal_encodeFocTouch (o : FocTouchForm) :
    decodeFocal (encodeFocTouch o) = .focTouch o := by
  have hk : Layout.focKind (encodeFocTouch o) = 3#4 := extractLsb_byteOfBits_eq_self rfl
  rw [decodeFocal_of_touch hk]
  obtain ⟨pressed, bitmap⟩ := o
  simp only [Instr.focTouch.injEq, FocTouchForm.mk.injEq]
  exact ⟨byteOfBits_getLsbD .., extractLsb_setWidth_eq_self _ (by decide)⟩

theorem decodeFocal_encodeFocAbs (o : FocAbsForm) : decodeFocal (encodeFocAbs o) = .focAbs o := by
  have hk : Layout.focKind (encodeFocAbs o) = 6#4 := extractLsb_byteOfBits_eq_self rfl
  rw [decodeFocal_of_abs hk]
  obtain ⟨pressed, fidx, x, yHi, yLo, z⟩ := o
  simp only [Instr.focAbs.injEq, FocAbsForm.mk.injEq]
  exact ⟨byteOfBits_getLsbD .., extractLsb_byteOfBits_eq_self rfl,
    append_lowByte (extractLsb_byteOfBits rfl), rfl, rfl, rfl⟩

theorem decodeFocal_encodeFocRel (o : FocRelForm) : decodeFocal (encodeFocRel o) = .focRel o := by
  have hk : Layout.focKind (encodeFocRel o) = 9#4 := extractLsb_byteOfBits_eq_self rfl
  rw [decodeFocal_of_rel hk]
  obtain ⟨pressed, idx1, dx1, dy1, idx2, dx2, dy2⟩ := o
  simp only [Instr.focRel.injEq, FocRelForm.mk.injEq]
  exact ⟨byteOfBits_getLsbD .., extractLsb_byteOfBits_eq_self rfl, rfl, rfl,
    extractLsb_byteOfBits_eq_self rfl, rfl, rfl⟩

/-- An unknown kind is read back from its nibble. -/
theorem decodeFocal_of_kind {k : BitVec 4} (h3 : k ≠ 3#4) (h6 : k ≠ 6#4) (h9 : k ≠ 9#4) :
    decodeFocal { Packet.zero with b0 := k.setWidth 8 } = .focUnk k := by
  have hk : Layout.focKind { Packet.zero with b0 := k.setWidth 8 } = k :=
    extractLsb_setWidth_eq_self k (by decide)
  rw [decodeFocal_of_unknown (by rwa [hk]) (by rwa [hk]) (by rwa [hk]), hk]

/-! ### Decoding what was encoded -/

/-- The canonical packet of a well-formed operation selects it, in its own context (R110, R120). -/
theorem decodePacket_of_encodePacket {i : Instr} {hw : HwVersion} {oe : Option Era} {era : Era}
    {p : Packet} (hwf : i.wellFormed = true) (hc : contextOf i = some (hw, oe))
    (he : oe = none ∨ oe = some era) (hp : encodePacket i = some p) :
    decodePacket hw era p = i := by
  cases i <;> cases hc <;> cases hp
  case v1Old o =>
    obtain rfl : Era.old = era := by simpa using he
    exact decodeV1Old_encodeV1Old o
  case v1New o =>
    obtain rfl : Era.new = era := by simpa using he
    exact decodeV1New_encodeV1New o
  case v2F0 o => exact decodeV2_encodeV2None o
  case v2F1 o => exact decodeV2_encodeV2One_one o
  case v2F2 o => exact decodeV2_encodeV2Two o
  case v2F3 o => exact decodeV2_encodeV2One_three o
  case v2F4 o => exact decodeV2_encodeV2One_four o
  case v3F0 o => exact decodeV3_encodeV3_zero o 0 0
  case v3F1 o => exact decodeV3_encodeV3_one o
  case v3F3 o => exact decodeV3_encodeV3_three o
  case v3Head =>
    obtain ⟨hcount, hhead⟩ := Bool.and_eq_true_iff.mp hwf
    exact decodeV3_of_head (beq_iff_eq.mp hcount) (beq_iff_eq.mp hhead)
  case v3Tail o => exact decodeV3_encodeV3_tail o (by simpa [Instr.wellFormed] using hwf)
  case focTouch o => exact decodeFocal_encodeFocTouch o
  case focAbs o => exact decodeFocal_encodeFocAbs o
  case focRel o => exact decodeFocal_encodeFocRel o
  case focUnk k =>
    obtain ⟨⟨h3, h6⟩, h9⟩ : (k ≠ 3#4 ∧ k ≠ 6#4) ∧ k ≠ 9#4 := by
      simpa [Instr.wellFormed] using hwf
    exact decodeFocal_of_kind h3 h6 h9

/-- Settles O1: the encoding is the bytes of the canonical packet, and that packet selects the
operation again. -/
theorem decodeOfEncodeIsTheInstruction : Obligations.DecodeOfEncodeIsTheInstruction := by
  unfold Obligations.DecodeOfEncodeIsTheInstruction
  intro i hw oe era rest hwf hc he
  obtain ⟨p, hp, hbytes⟩ := encode_of_context hc
  refine ⟨packetBytes hw p, hbytes, packetBytes_length hw p, ?_⟩
  rw [decodeBytes_packetBytes, decodePacket_of_encodePacket hwf hc he hp]

/-- Settles O6: the decoder evaluated on the four words. -/
theorem writtenOutWordsDecode : Obligations.WrittenOutWordsDecode := by
  unfold Obligations.WrittenOutWordsDecode
  exact ⟨rfl, rfl, rfl, rfl⟩

/-! ### Every packet selects an operation -/

theorem focKind_cases (k : BitVec 4) :
    k = 3#4 ∨ k = 6#4 ∨ k = 9#4 ∨ (k ≠ 3#4 ∧ k ≠ 6#4 ∧ k ≠ 9#4) := by
  tauto

theorem decodeV2_wellFormed (p : Packet) : (decodeV2 p).wellFormed = true := by
  unfold decodeV2
  split_ifs <;> rfl

theorem decodeV3_wellFormed (p : Packet) : (decodeV3 p).wellFormed = true := by
  obtain hc | hc | hc | hc := bitVec2_cases (Layout.count p)
  · rw [decodeV3_of_count_zero hc]; rfl
  · rw [decodeV3_of_count_one hc]; rfl
  · by_cases hh : Layout.v3H p = 1#2
    · rw [decodeV3_of_head hc hh]
      exact Bool.and_eq_true_iff.mpr ⟨beq_iff_eq.mpr hc, beq_iff_eq.mpr hh⟩
    · rw [decodeV3_of_tail hc hh]
      exact bne_iff_ne.mpr hh
  · rw [decodeV3_of_count_three hc]; rfl

theorem decodeFocal_wellFormed (p : Packet) : (decodeFocal p).wellFormed = true := by
  obtain h | h | h | ⟨h3, h6, h9⟩ := focKind_cases (Layout.focKind p)
  · rw [decodeFocal_of_touch h]; rfl
  · rw [decodeFocal_of_abs h]; rfl
  · rw [decodeFocal_of_rel h]; rfl
  · rw [decodeFocal_of_unknown h3 h6 h9]
    simp [Instr.wellFormed, h3, h6, h9]

/-- The decoder never gives an ill-formed term (R98, R103, R110). -/
theorem decodePacket_wellFormed (hw : HwVersion) (era : Era) (p : Packet) :
    (decodePacket hw era p).wellFormed = true := by
  cases hw
  case v1 => cases era <;> rfl
  case v2 => exact decodeV2_wellFormed p
  case v3 => exact decodeV3_wellFormed p
  case focal => exact decodeFocal_wellFormed p

/-- The context of the decoded operation is the one it was decoded in; only V1 tells the eras
apart. -/
theorem contextOf_decodePacket (hw : HwVersion) (era : Era) (p : Packet) :
    contextOf (decodePacket hw era p) = some (hw, if hw = .v1 then some era else none) := by
  cases hw
  case v1 => cases era <;> rfl
  case v2 => simp only [decodePacket, decodeV2, reduceCtorEq, if_false]; split_ifs <;> rfl
  case v3 => simp only [decodePacket, decodeV3, reduceCtorEq, if_false]; split_ifs <;> rfl
  case focal => simp only [decodePacket, decodeFocal, reduceCtorEq, if_false]; split_ifs <;> rfl

/-- Settles O3, by what the decoder makes of each value of the selector bits. -/
theorem everyPacketSelectsAWellFormedOperation :
    Obligations.EveryPacketSelectsAWellFormedOperation := by
  unfold Obligations.EveryPacketSelectsAWellFormedOperation
  intro hw era p
  refine ⟨decodePacket_wellFormed hw era p, decodePacket_isPacketOp hw era p, _,
    contextOf_decodePacket hw era p, ?_⟩
  split_ifs
  · exact .inr rfl
  · exact .inl rfl

end Sys2Proof
end

section
/-! Which bits of a packet the decoder looks at: an operation is selected by its selector bits and
made of the bits its format reads, and the others change nothing (R110, R111, R116). -/

namespace Sys2Proof.Machine

/-! ### Bytes that agree under a mask -/

/-- A field that a mask lets through whole is the same in two bytes that agree under the mask. -/
theorem extractLsb_congr {x y m : Byte} (h : x &&& m = y &&& m) {hi lo : Nat}
    (hm : m.extractLsb hi lo = BitVec.allOnes (hi - lo + 1)) :
    x.extractLsb hi lo = y.extractLsb hi lo := by
  have hf := congrArg (BitVec.extractLsb hi lo) h
  simpa only [BitVec.extractLsb_and, hm, BitVec.and_allOnes] using hf

theorem getLsbD_congr {x y m : Byte} (h : x &&& m = y &&& m) {i : Nat} (hm : m.getLsbD i = true) :
    x.getLsbD i = y.getLsbD i := by
  have hb := congrArg (BitVec.getLsbD · i) h
  simpa only [BitVec.getLsbD_and, hm, Bool.and_true] using hb

theorem byte_congr {x y : Byte} (h : x &&& 0xFF = y &&& 0xFF) : x = y := by
  have hones : (0xFF : Byte) = BitVec.allOnes 8 := by decide
  rwa [hones, BitVec.and_allOnes, BitVec.and_allOnes] at h

theorem append_congr {m n : Nat} {u u' : BitVec m} {l l' : BitVec n} (hu : u = u') (hl : l = l') :
    u ++ l = u' ++ l' := by
  rw [hu, hl]

/-- The packet with every bit outside a mask cleared. -/
def masked (m p : Packet) : Packet :=
  ⟨p.b0 &&& m.b0, p.b1 &&& m.b1, p.b2 &&& m.b2, p.b3 &&& m.b3, p.b4 &&& m.b4, p.b5 &&& m.b5⟩

theorem masked_masked (n m p : Packet) : masked n (masked m p) = masked (masked m n) p := by
  simp only [masked, BitVec.and_assoc, Packet.mk.injEq]
  exact ⟨congrArg _ (BitVec.and_comm ..), congrArg _ (BitVec.and_comm ..),
    congrArg _ (BitVec.and_comm ..), congrArg _ (BitVec.and_comm ..),
    congrArg _ (BitVec.and_comm ..), congrArg _ (BitVec.and_comm ..)⟩

theorem agreeUnder_iff_masked_eq {m p q : Packet} :
    agreeUnder m p q ↔ masked m p = masked m q := by
  simp only [masked, Packet.mk.injEq]

/-- Packets that agree under a mask agree under every part of it. -/
theorem agreeUnder.mono {m n p q : Packet} (h : agreeUnder m p q) (hn : masked m n = n) :
    agreeUnder n p q := by
  rw [agreeUnder_iff_masked_eq] at h ⊢
  rw [← hn, ← masked_masked, h, masked_masked]

/-! ### Fields that two packets share

Each mask below is one of `readMask`, or the part of it that selects. -/

section
variable {p q : Packet}

theorem count_congr (h : agreeUnder ⟨0xC0, 0, 0, 0, 0, 0⟩ p q) :
    Layout.count p = Layout.count q :=
  extractLsb_congr h.1 rfl

theorem v2Overflow_congr (h : agreeUnder ⟨0, 0, 0, 0x80, 0, 0⟩ p q) :
    Layout.v2Overflow p = Layout.v2Overflow q := by
  obtain ⟨-, -, -, h3, -, -⟩ := h
  exact getLsbD_congr h3 rfl

theorem v3H_congr (h : agreeUnder ⟨0x0C, 0, 0, 0, 0, 0⟩ p q) : Layout.v3H p = Layout.v3H q :=
  extractLsb_congr h.1 rfl

theorem focKind_congr (h : agreeUnder ⟨0x0F, 0, 0, 0, 0, 0⟩ p q) :
    Layout.focKind p = Layout.focKind q :=
  extractLsb_congr h.1 rfl

theorem decodeV1Old_congr (h : agreeUnder ⟨0xF7, 0xBF, 0xFF, 0xFF, 0, 0⟩ p q) :
    decodeV1Old p = decodeV1Old q := by
  obtain ⟨h0, h1, h2, h3, -, -⟩ := h
  simp only [decodeV1Old, Instr.v1Old.injEq, V1OldForm.mk.injEq]
  exact ⟨getLsbD_congr h0 rfl, getLsbD_congr h0 rfl, getLsbD_congr h0 rfl, getLsbD_congr h0 rfl,
    getLsbD_congr h0 rfl, getLsbD_congr h1 rfl, extractLsb_congr h1 rfl,
    append_congr (extractLsb_congr h1 rfl) (byte_congr h2),
    append_congr (extractLsb_congr h1 rfl) (byte_congr h3),
    getLsbD_congr h0 rfl, getLsbD_congr h0 rfl⟩

theorem decodeV1New_congr (h : agreeUnder ⟨0xF7, 0x0F, 0xFF, 0xFF, 0, 0⟩ p q) :
    decodeV1New p = decodeV1New q := by
  obtain ⟨h0, h1, h2, h3, -, -⟩ := h
  simp only [decodeV1New, Instr.v1New.injEq, V1NewForm.mk.injEq]
  exact ⟨getLsbD_congr h0 rfl, getLsbD_congr h0 rfl, getLsbD_congr h0 rfl, getLsbD_congr h0 rfl,
    getLsbD_congr h0 rfl, extractLsb_congr h0 rfl,
    append_congr (extractLsb_congr h1 rfl) (byte_congr h2),
    append_congr (extractLsb_congr h1 rfl) (byte_congr h3)⟩

theorem v2OneForm_congr (h : agreeUnder ⟨0xF3, 0xF7, 0xFF, 0x30, 0xF3, 0xFF⟩ p q) :
    v2OneForm p = v2OneForm q := by
  obtain ⟨h0, h1, h2, h3, h4, h5⟩ := h
  simp only [v2OneForm, V2OneForm.mk.injEq]
  exact ⟨getLsbD_congr h0 rfl, getLsbD_congr h0 rfl,
    append_congr (extractLsb_congr h1 rfl) (byte_congr h2),
    append_congr (extractLsb_congr h4 rfl) (byte_congr h5),
    append_congr (extractLsb_congr h1 rfl) (extractLsb_congr h4 rfl),
    append_congr (extractLsb_congr h0 rfl) (extractLsb_congr h3 rfl)⟩

theorem v2TwoForm_congr (h : agreeUnder ⟨0xF3, 0xFF, 0xFF, 0x30, 0xFF, 0xFF⟩ p q) :
    v2TwoForm p = v2TwoForm q := by
  obtain ⟨h0, h1, h2, h3, h4, h5⟩ := h
  simp only [v2TwoForm, V2TwoForm.mk.injEq]
  exact ⟨getLsbD_congr h0 rfl, getLsbD_congr h0 rfl,
    append_congr (extractLsb_congr h0 rfl) (byte_congr h1),
    append_congr (extractLsb_congr h0 rfl) (byte_congr h2),
    append_congr (extractLsb_congr h3 rfl) (byte_congr h4),
    append_congr (extractLsb_congr h3 rfl) (byte_congr h5)⟩

/-- The fields that every V3 packet with a frame has. -/
theorem v3NoneForm_congr (h : agreeUnder ⟨0xF3, 0xF0, 0, 0x30, 0xF0, 0⟩ p q) :
    Layout.left p = Layout.left q ∧ Layout.right p = Layout.right q ∧
      Layout.pressure p = Layout.pressure q ∧ Layout.width p = Layout.width q := by
  obtain ⟨h0, h1, -, h3, h4, -⟩ := h
  exact ⟨getLsbD_congr h0 rfl, getLsbD_congr h0 rfl,
    append_congr (extractLsb_congr h1 rfl) (extractLsb_congr h4 rfl),
    append_congr (extractLsb_congr h0 rfl) (extractLsb_congr h3 rfl)⟩

theorem v3Pos_congr (h : agreeUnder ⟨0xF3, 0xFF, 0xFF, 0x30, 0xFF, 0xFF⟩ p q) :
    Layout.v3X p = Layout.v3X q ∧ Layout.v3Y p = Layout.v3Y q := by
  obtain ⟨-, h1, h2, -, h4, h5⟩ := h
  exact ⟨append_congr (extractLsb_congr h1 rfl) (byte_congr h2),
    append_congr (extractLsb_congr h4 rfl) (byte_congr h5)⟩

theorem v3OneForm_congr (h : agreeUnder ⟨0xF3, 0xFF, 0xFF, 0x30, 0xFF, 0xFF⟩ p q) :
    v3OneForm p = v3OneForm q := by
  obtain ⟨hleft, hright, hpressure, hwidth⟩ := v3NoneForm_congr (h.mono (by decide))
  obtain ⟨hx, hy⟩ := v3Pos_congr h
  rw [v3OneForm, v3OneForm, hleft, hright, hpressure, hwidth, hx, hy]

theorem v3TailForm_congr (h : agreeUnder ⟨0xFF, 0xFF, 0xFF, 0x30, 0xFF, 0xFF⟩ p q) :
    v3TailForm p = v3TailForm q := by
  obtain ⟨hleft, hright, hpressure, hwidth⟩ := v3NoneForm_congr (h.mono (by decide))
  obtain ⟨hx, hy⟩ := v3Pos_congr (h.mono (by decide))
  have hh := v3H_congr (h.mono (by decide))
  rw [v3TailForm, v3TailForm, hleft, hright, hh, hpressure, hwidth, hx, hy]

theorem packet_congr (h : agreeUnder ⟨0xFF, 0xFF, 0xFF, 0xFF, 0xFF, 0xFF⟩ p q) : p = q := by
  obtain ⟨h0, h1, h2, h3, h4, h5⟩ := h
  cases p
  cases q
  simp only [Packet.mk.injEq]
  exact ⟨byte_congr h0, byte_congr h1, byte_congr h2, byte_congr h3, byte_congr h4, byte_congr h5⟩

/-! ### The operations -/

/-- Every V2 operation reads the count field that selects it. -/
theorem masked_readMask_decodeV2 (p : Packet) :
    masked (readMask (decodeV2 p)) ⟨0xC0, 0, 0, 0, 0, 0⟩ = ⟨0xC0, 0, 0, 0, 0, 0⟩ := by
  unfold decodeV2
  split_ifs <;> (simp only [readMask]; decide)

theorem decodeV2_congr (h : agreeUnder (readMask (decodeV2 p)) p q) : decodeV2 p = decodeV2 q := by
  have hcount := count_congr (h.mono (masked_readMask_decodeV2 p))
  obtain hc | hc | hc | hc := bitVec2_cases (Layout.count p)
  · simp only [decodeV2_of_count_zero hc, readMask] at h ⊢
    obtain ⟨h0, -⟩ := h
    rw [decodeV2_of_count_zero (hcount ▸ hc)]
    simp only [Instr.v2F0.injEq, V2NoneForm.mk.injEq]
    exact ⟨getLsbD_congr h0 rfl, getLsbD_congr h0 rfl⟩
  · simp only [decodeV2_of_count_one hc, readMask] at h ⊢
    rw [decodeV2_of_count_one (hcount ▸ hc), v2OneForm_congr h]
  · simp only [decodeV2_of_count_two hc, readMask] at h ⊢
    rw [decodeV2_of_count_two (hcount ▸ hc), v2TwoForm_congr h]
  · cases ho : Layout.v2Overflow p
    · simp only [decodeV2_of_count_three hc ho, readMask] at h ⊢
      rw [decodeV2_of_count_three (hcount ▸ hc) (v2Overflow_congr (h.mono (by decide)) ▸ ho),
        v2OneForm_congr (h.mono (by decide))]
    · simp only [decodeV2_of_overflow hc ho, readMask] at h ⊢
      rw [decodeV2_of_overflow (hcount ▸ hc) (v2Overflow_congr (h.mono (by decide)) ▸ ho),
        v2OneForm_congr (h.mono (by decide))]

/-- Every V3 operation reads the count field that selects it. -/
theorem masked_readMask_decodeV3 (p : Packet) :
    masked (readMask (decodeV3 p)) ⟨0xC0, 0, 0, 0, 0, 0⟩ = ⟨0xC0, 0, 0, 0, 0, 0⟩ := by
  unfold decodeV3
  split_ifs <;> (simp only [readMask]; decide)

theorem decodeV3_congr (h : agreeUnder (readMask (decodeV3 p)) p q) : decodeV3 p = decodeV3 q := by
  have hcount := count_congr (h.mono (masked_readMask_decodeV3 p))
  obtain hc | hc | hc | hc := bitVec2_cases (Layout.count p)
  · simp only [decodeV3_of_count_zero hc, readMask] at h ⊢
    obtain ⟨hleft, hright, hpressure, hwidth⟩ := v3NoneForm_congr h
    rw [decodeV3_of_count_zero (hcount ▸ hc), hleft, hright, hpressure, hwidth]
  · simp only [decodeV3_of_count_one hc, readMask] at h ⊢
    rw [decodeV3_of_count_one (hcount ▸ hc), v3OneForm_congr h]
  · by_cases hh : Layout.v3H p = 1#2
    · simp only [decodeV3_of_head hc hh, readMask] at h
      rw [packet_congr h]
    · simp only [decodeV3_of_tail hc hh, readMask] at h ⊢
      have hhq := v3H_congr (h.mono (by decide)) ▸ hh
      rw [decodeV3_of_tail (hcount ▸ hc) hhq, v3TailForm_congr h]
  · simp only [decodeV3_of_count_three hc, readMask] at h ⊢
    rw [decodeV3_of_count_three (hcount ▸ hc), v3OneForm_congr h]

/-- Every FOCAL operation reads the kind that selects it. -/
theorem masked_readMask_decodeFocal (p : Packet) :
    masked (readMask (decodeFocal p)) ⟨0x0F, 0, 0, 0, 0, 0⟩ = ⟨0x0F, 0, 0, 0, 0, 0⟩ := by
  unfold decodeFocal
  split_ifs <;> (simp only [readMask]; decide)

theorem decodeFocal_congr (h : agreeUnder (readMask (decodeFocal p)) p q) :
    decodeFocal p = decodeFocal q := by
  have hkind := focKind_congr (h.mono (masked_readMask_decodeFocal p))
  obtain hk | hk | hk | ⟨h3, h6, h9⟩ := focKind_cases (Layout.focKind p)
  · simp only [decodeFocal_of_touch hk, readMask] at h ⊢
    obtain ⟨h0, h1, -⟩ := h
    rw [decodeFocal_of_touch (hkind ▸ hk)]
    simp only [Instr.focTouch.injEq, FocTouchForm.mk.injEq]
    exact ⟨getLsbD_congr h0 rfl, extractLsb_congr h1 rfl⟩
  · simp only [decodeFocal_of_abs hk, readMask] at h ⊢
    obtain ⟨h0, h1, h2, h3, h4, h5⟩ := h
    rw [decodeFocal_of_abs (hkind ▸ hk)]
    simp only [Instr.focAbs.injEq, FocAbsForm.mk.injEq]
    exact ⟨getLsbD_congr h0 rfl, extractLsb_congr h1 rfl,
      append_congr (extractLsb_congr h1 rfl) (byte_congr h2), byte_congr h3, byte_congr h4,
      byte_congr h5⟩
  · simp only [decodeFocal_of_rel hk, readMask] at h ⊢
    obtain ⟨h0, h1, h2, h3, h4, h5⟩ := h
    rw [decodeFocal_of_rel (hkind ▸ hk)]
    simp only [Instr.focRel.injEq, FocRelForm.mk.injEq]
    exact ⟨getLsbD_congr h0 rfl, extractLsb_congr h0 rfl, byte_congr h1, byte_congr h2,
      extractLsb_congr h3 rfl, byte_congr h4, byte_congr h5⟩
  · rw [decodeFocal_of_unknown h3 h6 h9, hkind]
    rw [hkind] at h3 h6 h9
    exact (decodeFocal_of_unknown h3 h6 h9).symm

end

/-- Settles O5: each operation's selector and each of its fields lie within the bits it reads. -/
theorem ignoredBitsDoNotChangeTheDecoding : Obligations.IgnoredBitsDoNotChangeTheDecoding := by
  unfold Obligations.IgnoredBitsDoNotChangeTheDecoding
  intro hw era p q h
  symm
  cases hw
  case v1 =>
    cases era
    · exact decodeV1Old_congr h
    · exact decodeV1New_congr h
  case v2 => exact decodeV2_congr h
  case v3 => exact decodeV3_congr h
  case focal => exact decodeFocal_congr h

/-! ### The rows of the opcode table -/

/-- The bits that select an operation of a variant (R110; D11, D16). -/
def selectorMask : HwVersion → Packet
  | .v1 => ⟨0#8, 0#8, 0#8, 0#8, 0#8, 0#8⟩
  | .v2 =>
    ⟨byteOfBits true true false false false false false false, 0#8, 0#8,
      byteOfBits true false false false false false false false, 0#8, 0#8⟩
  | .v3 => ⟨byteOfBits true true false false true true false false, 0#8, 0#8, 0#8, 0#8, 0#8⟩
  | .focal => ⟨byteOfBits false false false false true true true true, 0#8, 0#8, 0#8, 0#8, 0#8⟩

/-- The mnemonics of the rows that select a packet word in a context (R111). -/
def selectingRows (hw : HwVersion) (era : Era) (w : Nat) : List String :=
  (tableRows.filter fun r =>
    r.hw == hw && (r.era == none || r.era == some era) && r.selects w).map TableRow.mnemonic

theorem masked_self (m : Packet) : masked m m = m := by
  simp only [masked, BitVec.and_self]

/-- Clearing the bits outside a mask changes none of those inside. -/
theorem agreeUnder_masked (m p : Packet) : agreeUnder m p (masked m p) := by
  rw [agreeUnder_iff_masked_eq, masked_masked, masked_self]

/-- Clearing bits of a packet clears the same bits of its packet word. -/
theorem packetWord_masked (m p : Packet) :
    packetWord (masked m p) = packetWord p &&& packetWord m := by
  simp only [packetWord, masked, ← BitVec.toNat_and, BitVec.and_append]

/-- No row looks at a bit that is not a selector bit of its variant. -/
theorem mask_le_selectorMask :
    ∀ r ∈ tableRows, packetWord (selectorMask r.hw) &&& r.mask = r.mask := by
  decide

/-- So the rows that select a packet depend on its selector bits only. -/
theorem selectingRows_masked (hw : HwVersion) (era : Era) (p : Packet) :
    selectingRows hw era (packetWord p) =
      selectingRows hw era (packetWord (masked (selectorMask hw) p)) := by
  refine congrArg (List.map TableRow.mnemonic) ?_
  refine List.filter_congr fun r hr => ?_
  by_cases hv : r.hw = hw
  · have hselects :
        r.selects (packetWord p) = r.selects (packetWord (masked (selectorMask hw) p)) := by
      rw [TableRow.selects, TableRow.selects, packetWord_masked, Nat.and_assoc, ← hv,
        mask_le_selectorMask r hr]
    rw [hselects]
  · simp only [beq_eq_false_iff_ne.mpr hv, Bool.false_and]

/-- And so does which operation it decodes to. -/
theorem mnemonicOf_decodePacket_masked (hw : HwVersion) (era : Era) (p : Packet) :
    mnemonicOf (decodePacket hw era (masked (selectorMask hw) p)) =
      mnemonicOf (decodePacket hw era p) := by
  have h := agreeUnder_masked (selectorMask hw) p
  cases hw
  case v1 => cases era <;> rfl
  case v2 =>
    have hcount := count_congr (h.mono (by decide))
    have hoverflow := v2Overflow_congr (h.mono (by decide))
    simp only [decodePacket, decodeV2, apply_ite mnemonicOf, hcount, hoverflow]
    rfl
  case v3 =>
    have hcount := count_congr (h.mono (by decide))
    have hhead := v3H_congr (h.mono (by decide))
    simp only [decodePacket, decodeV3, apply_ite mnemonicOf, hcount, hhead]
    rfl
  case focal =>
    have hkind := focKind_congr (h.mono (by decide))
    simp only [decodePacket, decodeFocal, apply_ite mnemonicOf, hkind]
    rfl

/-- The columns of a byte that a mask lets through. -/
theorem and_byteOfBits (b : Byte) (m7 m6 m5 m4 m3 m2 m1 m0 : Bool) :
    b &&& byteOfBits m7 m6 m5 m4 m3 m2 m1 m0 =
      byteOfBits (b.getLsbD 7 && m7) (b.getLsbD 6 && m6) (b.getLsbD 5 && m5) (b.getLsbD 4 && m4)
        (b.getLsbD 3 && m3) (b.getLsbD 2 && m2) (b.getLsbD 1 && m1) (b.getLsbD 0 && m0) := by
  refine BitVec.eq_of_getLsbD_eq fun i hi => ?_
  rw [BitVec.getLsbD_and, byteOfBits_getLsbD, byteOfBits_getLsbD]
  match i, hi with
  | 0, _ | 1, _ | 2, _ | 3, _ | 4, _ | 5, _ | 6, _ | 7, _ => rfl

/-- One row of the context selects the packet, and it is the row of the operation it decodes to. -/
def RowAgrees (hw : HwVersion) (era : Era) (p : Packet) : Prop :=
  selectingRows hw era (packetWord p) = [mnemonicOf (decodePacket hw era p)]

theorem rowAgrees_of_masked {hw : HwVersion} {era : Era} {p : Packet}
    (h : RowAgrees hw era (masked (selectorMask hw) p)) : RowAgrees hw era p := by
  rwa [RowAgrees, ← selectingRows_masked, mnemonicOf_decodePacket_masked] at h

theorem rowAgrees_v1 (era : Era) (p : Packet) : RowAgrees .v1 era p := by
  refine rowAgrees_of_masked ?_
  simp only [masked, selectorMask, BitVec.and_zero]
  unfold RowAgrees
  cases era <;> decide

theorem rowAgrees_v2 (era : Era) (p : Packet) : RowAgrees .v2 era p := by
  refine rowAgrees_of_masked ?_
  simp only [masked, selectorMask, and_byteOfBits, BitVec.and_zero, Bool.and_true, Bool.and_false]
  generalize p.b0.getLsbD 7 = n1, p.b0.getLsbD 6 = n0, p.b3.getLsbD 7 = n4
  unfold RowAgrees
  cases era <;> revert n1 n0 n4 <;> decide

theorem rowAgrees_v3 (era : Era) (p : Packet) : RowAgrees .v3 era p := by
  refine rowAgrees_of_masked ?_
  simp only [masked, selectorMask, and_byteOfBits, BitVec.and_zero, Bool.and_true, Bool.and_false]
  generalize p.b0.getLsbD 7 = n1, p.b0.getLsbD 6 = n0, p.b0.getLsbD 3 = h1, p.b0.getLsbD 2 = h0
  unfold RowAgrees
  cases era <;> revert n1 n0 h1 h0 <;> decide

theorem rowAgrees_focal (era : Era) (p : Packet) : RowAgrees .focal era p := by
  refine rowAgrees_of_masked ?_
  simp only [masked, selectorMask, and_byteOfBits, BitVec.and_zero, Bool.and_true, Bool.and_false]
  generalize p.b0.getLsbD 3 = k3, p.b0.getLsbD 2 = k2, p.b0.getLsbD 1 = k1, p.b0.getLsbD 0 = k0
  unfold RowAgrees
  cases era <;> revert k3 k2 k1 k0 <;> decide

/-- Settles O4: both sides depend only on the selector bits, and the table is read for each of their
values. -/
theorem exactlyOneTableRowSelectsEachPacket : Obligations.ExactlyOneTableRowSelectsEachPacket := by
  unfold Obligations.ExactlyOneTableRowSelectsEachPacket
  intro hw era p
  cases hw
  case v1 => exact rowAgrees_v1 era p
  case v2 => exact rowAgrees_v2 era p
  case v3 => exact rowAgrees_v3 era p
  case focal => exact rowAgrees_focal era p

end Sys2Proof.Machine
end

section
/-! Which events a step answers, the step that performs a placed table word, and a HEAD with its
TAIL (R111, R115, R121, R130, R255). -/

namespace Sys2Proof.Machine

/-! ### Legal events complete, others are refused -/

/-- What the operation of a port event does from a legal state: it completes on a legal event, and
is refused on any other (R115, R255). -/
theorem exec_decodeEvent_cases (e : Event) {s : State} (hi : s.Inv) :
    (eventLegal s e = true ∧ ∃ t, exec (decodeEvent e) s = .next t) ∨
    (eventLegal s e = false ∧ ∃ r, exec (decodeEvent e) s = .refused r) := by
  obtain ⟨hacc, -⟩ := hi
  cases hl : s.sessionLive
  case false =>
    cases e with
    | init c => exact .inl ⟨by simp [eventLegal, hl], _, if_neg (ne_true_of_eq_false hl)⟩
    | byte | disconnect | setParitycheck | setDebug =>
      exact .inr ⟨hl, _, if_neg (ne_true_of_eq_false hl)⟩
  case true =>
    cases e with
    | byte b => exact .inl ⟨hl, execFeed_completes b hl hacc⟩
    | init c => exact .inr ⟨by simp [eventLegal, hl], _, if_pos hl⟩
    | disconnect | setParitycheck | setDebug => exact .inl ⟨hl, _, if_pos hl⟩

/-- What a step does from a legal state: it completes when its event is legal or when it has none,
and is refused otherwise. -/
theorem step_cases {s : State} (hi : s.Inv) :
    (nextEventLegal s = true ∧ ∃ t, step s = .next t) ∨
    (nextEventLegal s = false ∧ ∃ r, step s = .refused r) := by
  cases hin : s.input with
  | nil => exact .inl ⟨by simp only [nextEventLegal, hin], _, step_of_input_nil hin⟩
  | cons e es =>
    have hlegal : nextEventLegal s = eventLegal (s.withInput es) e := by
      simp only [nextEventLegal, hin]
      cases e <;> rfl
    rw [hlegal, step_of_input_cons hin]
    exact exec_decodeEvent_cases (s := s.withInput es) e hi

/-- Settles O14: a step completes or is refused. -/
theorem noStepFaults : Obligations.NoStepFaults := by
  unfold Obligations.NoStepFaults
  intro s r hi hfault
  obtain ⟨-, _, h⟩ | ⟨-, _, h⟩ := step_cases hi <;> cases h.symm.trans hfault

/-- Settles O15, by the two clauses of what a step does. -/
theorem stepCompletesExactlyOnLegalEvents : Obligations.StepCompletesExactlyOnLegalEvents := by
  unfold Obligations.StepCompletesExactlyOnLegalEvents
  intro s hi
  obtain ⟨hlegal, hnext⟩ | ⟨hillegal, _, hrefused⟩ := step_cases hi
  · exact iff_of_true hnext hlegal
  · refine iff_of_false ?_ (ne_true_of_eq_false hillegal)
    rintro ⟨t, ht⟩
    cases ht.symm.trans hrefused

/-! ### The step that performs a placed table word -/

/-- Everything behind the instruction that is read from a table word: its bytes decode, in the
context it is read in, to the instruction and nothing more. -/
theorem decodeTableWord_eq_some {nbits w : Nat} {i : Instr} (h : decodeTableWord nbits w = some i) :
    ∃ hw era, tableContext nbits (w % 2 ^ nbits) = (hw, era) ∧
      decodeBytes hw era (packetBytes hw (tablePacket nbits w)) = .ok (i, []) := by
  unfold decodeTableWord at h
  split at h
  case isTrue => cases h
  case isFalse =>
    generalize tableContext nbits (w % 2 ^ nbits) = ctx at h ⊢
    obtain ⟨hw, era⟩ := ctx
    refine ⟨hw, era, rfl, ?_⟩
    dsimp only at h
    split at h
    case h_1 hdec => rw [hdec, Option.some.inj h]
    case h_2 => cases h
    case h_3 => cases h

/-- The variant and, where it matters, the era of the session that a table word is placed in. -/
theorem decodeBytes_tableSession (c : SessionConfig) (hw : HwVersion) (era : Era)
    (bytes : List Byte) :
    decodeBytes (tableSession c hw era).hwVersion (eraOf (tableSession c hw era).firmwareVersion)
      bytes = decodeBytes hw era bytes := by
  cases hw
  case v1 => cases era <;> rfl
  all_goals rfl

/-- `s` with a packet of a context placed: its last byte comes next, the others are in `buf`. -/
def placedPacket (s : State) (hw : HwVersion) (era : Era) (p : Packet) : State :=
  { s with
    sessionLive := true
    cfg := tableSession s.cfg hw era
    buf := p
    accCount := BitVec.ofNat 3 (packetSize hw - 1)
    input := .byte (lastByte hw p) :: s.input }

/-- A table word is placed as its packet, in the context the word is read in. -/
theorem placeTableWord_eq {nbits w : Nat} {hw : HwVersion} {era : Era} (s : State)
    (h : tableContext nbits (w % 2 ^ nbits) = (hw, era)) :
    placeTableWord s nbits w = placedPacket s hw era (tablePacket nbits w) := by
  simp only [placeTableWord, h]
  rfl

theorem tableSession_hwVersion (c : SessionConfig) (hw : HwVersion) (era : Era) :
    (tableSession c hw era).hwVersion = hw := by
  cases hw <;> rfl

/-- The validator is off in a V1 session of a table word (R142). -/
theorem tableSession_paritycheck {c : SessionConfig} {hw : HwVersion} {era : Era}
    (h : (tableSession c hw era).hwVersion = .v1) :
    (tableSession c hw era).paritycheck = false := by
  cases (tableSession_hwVersion c hw era).symm.trans h
  rfl

/-- The state of a placed table word has all bytes of its packet but the last. -/
theorem bufferedBytes_append_lastByte {s : State} {hw : HwVersion} (hv : s.cfg.hwVersion = hw)
    (hacc : s.accCount = BitVec.ofNat 3 (packetSize hw - 1)) :
    bufferedBytes s ++ [lastByte hw s.buf] = packetBytes hw s.buf := by
  rw [bufferedBytes, hv, hacc]
  cases hw <;> rfl

/-- A live session that holds all bytes of a packet but the last, which comes next, performs the
operation of the packet in one step. -/
theorem step_of_lastByte {t : State} {hw : HwVersion} {es : List Event} {i : Instr}
    (hv : t.cfg.hwVersion = hw) (hl : t.sessionLive = true)
    (hacc : t.accCount = BitVec.ofNat 3 (packetSize hw - 1))
    (hin : t.input = .byte (lastByte hw t.buf) :: es)
    (hcheck : t.cfg.hwVersion = .v1 → t.cfg.paritycheck = false)
    (hdec : decodeBytes t.cfg.hwVersion (eraOf t.cfg.firmwareVersion) (packetBytes hw t.buf) =
      .ok (i, [])) :
    ∃ p, step t = exec i { t with buf := p, accCount := 0, input := es } := by
  have hlast : t.accCount.toNat + 1 = packetSize t.cfg.hwVersion := by
    rw [hacc, hv]
    cases hw <;> rfl
  rw [← bufferedBytes_append_lastByte hv hacc] at hdec
  obtain ⟨p, -, hstep⟩ :=
    completingStepRunsTheDecodedInstruction t _ es i hin hl hlast hcheck hdec
  exact ⟨p, hstep⟩

/-- Settles O11: the placed state is one byte short of its packet, so its next step is the one that
completes it. -/
theorem placedTableWordIsRunByTheNextStep : Obligations.PlacedTableWordIsRunByTheNextStep := by
  unfold Obligations.PlacedTableWordIsRunByTheNextStep
  intro s nbits w i h
  obtain ⟨hw, era, hctx, hdec⟩ := decodeTableWord_eq_some h
  rw [State.withFetchWord, placeTableWord_eq s hctx]
  obtain ⟨p, hstep⟩ := step_of_lastByte (t := placedPacket s hw era (tablePacket nbits w))
    (tableSession_hwVersion ..) rfl rfl rfl tableSession_paritycheck
    ((decodeBytes_tableSession ..).trans hdec)
  exact ⟨_, hstep, rfl⟩

/-! ### A HEAD and its TAIL -/

/-- Widening a raw coordinate does not change its number (R12). -/
theorem toNat_setWidth_coord (v : BitVec 12) : (v.setWidth 16).toNat = v.toNat := by
  rw [BitVec.toNat_setWidth_of_le (by decide)]

/-- A raw Y within its bound is within it after the inversion too (R12, R196). -/
theorem invertY_toNat_le {yMax : Coord} {raw : BitVec 12} (h : raw.toNat ≤ yMax.toNat) :
    (invertY yMax raw).toNat ≤ yMax.toNat := by
  have hraw := toNat_setWidth_coord raw
  have hle : raw.setWidth 16 ≤ yMax := by rwa [BitVec.le_def, hraw]
  rw [invertY, BitVec.toNat_sub_of_le hle]
  exact Nat.sub_le ..

/-- A V3 position passes the bounds check when its raw coordinates are within the bounds (R196). -/
theorem beyondBounds_v3Pos_eq_false {c : SessionConfig} {x y : BitVec 12}
    (hx : x.toNat ≤ c.xMax.toNat) (hy : y.toNat ≤ c.yMax.toNat) :
    beyondBounds c (v3Pos c.yMax x y) = false := by
  refine beyondBounds_eq_false.mpr ⟨?_, invertY_toNat_le hy⟩
  rwa [v3Pos, toNat_setWidth_coord]

/-- Settles O41: the HEAD is stored, and the TAIL finds it pending with both positions in bounds. -/
theorem headThenTailGivesOneTwoFingerFrame : Obligations.HeadThenTailGivesOneTwoFingerFrame := by
  unfold Obligations.HeadThenTailGivesOneTwoFingerFrame
  intro p o s hx1 hy1 hx2 hy2
  have h1 := beyondBounds_v3Pos_eq_false hx1 hy1
  have h2 := beyondBounds_v3Pos_eq_false hx2 hy2
  obtain ⟨hout, -⟩ | ⟨-, hpair⟩ := v3Packet_cases 2
      [v3Pos s.cfg.yMax (Layout.v3X p) (Layout.v3Y p), v3Pos s.cfg.yMax o.x o.y]
      (Layout.pressure p) (Layout.width p) o.left o.right .frame
      (raiseOutcome .v3HeadStored (s.storePend p))
  · simp [State.storePend, h1, h2] at hout
  · exact ⟨_, _, _, rfl, rfl, congrArg Host.Outcome.next hpair, rfl, rfl, rfl, rfl⟩

end Sys2Proof.Machine
end

section
/-! FEED in full, and what a completed V3 packet leaves pending (R130, R133, R136, R142, R144, R192,
R199). -/

namespace Sys2Proof.Machine

/-! ### FEED in full -/

/-- After a byte of a packet is written, reading gives it at its index and the old bytes elsewhere. -/
theorem packetGet_packetSet {p q : Packet} {k : Nat} {b : Byte} (h : packetSet p k b = some q)
    (j : Nat) : packetGet q j = if j = k then some b else packetGet p j := by
  split_ifs with hj
  · exact hj ▸ packetGet_packetSet_same h
  · exact packetGet_packetSet_ne h hj

/-- The validator drops the packet in `buf` exactly under V1, while it is on, when the parity is
wrong (R133, R142). -/
theorem parityDrops_eq_true_iff (s : State) :
    parityDrops s = true ↔
      s.cfg.hwVersion = .v1 ∧ s.cfg.paritycheck = true ∧ parityOk s.era s.buf = false := by
  simp [parityDrops, and_assoc]

/-- A packet that the validator drops ends with that outcome and nothing else (R144). -/
theorem dispatch_of_parityDrops {s : State} (h : parityDrops s = true) :
    dispatch s = .next (raiseOutcome .v1ParityDrop s) :=
  if_pos h

/-- A packet that the validator lets pass is performed (R133). -/
theorem dispatch_of_not_parityDrops {s : State} (h : ¬ parityDrops s = true) :
    dispatch s = exec (decodePacket s.cfg.hwVersion s.era s.buf) s := by
  obtain ⟨hdrop, -⟩ | ⟨-, he⟩ := dispatch_cases s
  · exact absurd hdrop h
  · exact he

theorem v1Packet_pktReady (fingers : Nat) (x y : BitVec 10) (left right : Bool)
    (forward back : Option Bool) (s : State) :
    (v1Packet fingers x y left right forward back s).out.pktReady = true := by
  obtain ⟨-, h⟩ | ⟨-, h⟩ := v1Packet_cases fingers x y left right forward back s <;> rw [h] <;> rfl

theorem v3Packet_pktReady (fingers : Nat) (positions : List Pos) (pressure : Byte)
    (width : BitVec 4) (left right : Bool) (oc : OutcomeCode) (s : State) :
    (v3Packet fingers positions pressure width left right oc s).out.pktReady = true := by
  obtain ⟨-, h⟩ | ⟨-, h⟩ := v3Packet_cases fingers positions pressure width left right oc s <;>
    rw [h] <;> rfl

/-- Every packet operation raises `pkt_ready`, with a frame or without (R130, R260). -/
theorem exec_pktReady {i : Instr} {hw : HwVersion} {oe : Option Era} {s t : State}
    (hc : contextOf i = some (hw, oe)) (h : exec i s = .next t) : t.out.pktReady = true := by
  cases hw
  case v1 =>
    obtain ⟨_, _, _, _, _, _, _, he⟩ := exec_eq_v1Packet hc s
    cases he.symm.trans h
    exact v1Packet_pktReady ..
  case v2 =>
    obtain ⟨_, _, _, _, he⟩ := exec_eq_v2Packet hc s
    cases he.symm.trans h
    rfl
  case v3 =>
    obtain ⟨_, he⟩ | ⟨_, _, _, _, _, _, _, he⟩ := exec_eq_v3Head_or_v3Packet hc s <;>
      cases he.symm.trans h
    · rfl
    · exact v3Packet_pktReady ..
  case focal =>
    obtain ⟨_, _, _, he⟩ := exec_eq_focResync hc s
    cases he.symm.trans h
    rfl

/-- A completed packet raises `pkt_ready` in the step that completes it, dropped or performed. -/
theorem dispatch_pktReady {s t : State} (h : dispatch s = .next t) : t.out.pktReady = true := by
  obtain rfl | ⟨i, oe, hc, he⟩ := dispatch_next_cases h
  · rfl
  · exact exec_pktReady hc he

theorem completes_eq_true_iff (s : State) :
    completes s = true ↔ s.accCount.toNat + 1 = packetSize s.cfg.hwVersion :=
  beq_iff_eq

/-- Settles O7: a live FEED stores its byte, and then counts it or dispatches the packet, whose two
ends are the validator's two answers. -/
theorem feedStoresCountsAndDispatches : Obligations.FeedStoresCountsAndDispatches := by
  unfold Obligations.FeedStoresCountsAndDispatches
  refine fun s b => ⟨fun hdead => if_neg (ne_true_of_eq_false hdead), fun hlive hacc => ?_⟩
  obtain ⟨p, hp, hcase⟩ := execFeed_of_legal b hlive hacc
  refine ⟨p, packetGet_packetSet hp, fun hmore => ?_, fun hlast => ?_⟩
  · obtain ⟨hc, -⟩ | ⟨-, he⟩ := hcase
    · exact absurd ((completes_eq_true_iff s).mp hc) hmore
    · exact he
  · obtain ⟨-, he⟩ | ⟨hc, -⟩ := hcase
    · have hdrops := parityDrops_eq_true_iff ((s.withBuf p).withAcc 0)
      obtain ⟨t, ht⟩ := dispatch_next ((s.withBuf p).withAcc 0)
      exact ⟨⟨t, he.trans ht, (dispatch_sameSession ht).accCount, dispatch_pktReady ht⟩,
        fun hbad => he.trans (dispatch_of_parityDrops (hdrops.mpr hbad)),
        fun hgood => he.trans (dispatch_of_not_parityDrops (mt hdrops.mp hgood))⟩
    · exact absurd ((completes_eq_true_iff s).mpr hlast) (ne_true_of_eq_false hc)

/-! ### What a completed V3 packet leaves pending -/

/-- The step stored no HEAD: nothing is pending after it, and its outcome is another one. -/
structure NoHeadStored (t : State) : Prop where
  pendValid : t.pendValid = false
  outcome : t.out.outcome ≠ .v3HeadStored

/-- A V3 packet that is no HEAD clears the pending packet, rejected or not (R199, D22). -/
theorem v3Packet_noHeadStored (fingers : Nat) (positions : List Pos) (pressure : Byte)
    (width : BitVec 4) (left right : Bool) {oc : OutcomeCode} (s : State)
    (hoc : oc ≠ .v3HeadStored) :
    NoHeadStored (v3Packet fingers positions pressure width left right oc s) := by
  obtain ⟨-, h⟩ | ⟨-, h⟩ := v3Packet_cases fingers positions pressure width left right oc s <;>
    rw [h]
  · exact ⟨rfl, nofun⟩
  · exact ⟨rfl, hoc⟩

/-- A TAIL, paired or not, leaves nothing pending (R193, R199). -/
theorem execV3Tail_noHeadStored {o : V3TailForm} {s t : State} (h : execV3Tail o s = .next t) :
    NoHeadStored t := by
  cases h
  split
  · exact v3Packet_noHeadStored (hoc := by decide) ..
  · exact v3Packet_noHeadStored (hoc := by decide) ..

/-- A HEAD leaves its own bytes pending, any other V3 operation leaves nothing (R192, R199). -/
theorem exec_v3_pending {i : Instr} {oe : Option Era} {s t : State}
    (hc : contextOf i = some (.v3, oe)) (h : exec i s = .next t) :
    (∃ p, i = .v3Head p ∧ t = raiseOutcome .v3HeadStored (s.storePend p)) ∨ NoHeadStored t := by
  cases i <;> cases hc
  case v3Head p =>
    cases h
    exact .inl ⟨p, rfl, rfl⟩
  case v3Tail o => exact .inr (execV3Tail_noHeadStored h)
  all_goals
    cases h
    exact .inr (v3Packet_noHeadStored (hoc := by decide) ..)

/-- The packet that a HEAD carries is the whole packet it was decoded from (R98, R192). -/
theorem eq_of_decodeV3_eq_v3Head {p q : Packet} (h : decodeV3 p = .v3Head q) : q = p := by
  unfold decodeV3 at h
  split_ifs at h
  cases h
  rfl

/-- Under V3 the dispatch stores the packet in `buf`, or leaves nothing pending (R136). -/
theorem dispatch_v3_pending {s t : State} (hv : s.cfg.hwVersion = .v3) (h : dispatch s = .next t) :
    t = raiseOutcome .v3HeadStored (s.storePend s.buf) ∨ NoHeadStored t := by
  rw [dispatch_eq_exec (by simp [hv]), hv] at h
  obtain ⟨q, hq, rfl⟩ | hnone := exec_v3_pending (contextOf_decodePacket .v3 s.era s.buf) h
  · exact .inl (by rw [eq_of_decodeV3_eq_v3Head hq])
  · exact .inr hnone

/-- Settles O39: FEED of the last byte dispatches the packet, which is stored or clears what was
pending. -/
theorem aPacketIsPendingExactlyAfterAHead : Obligations.APacketIsPendingExactlyAfterAHead := by
  unfold Obligations.APacketIsPendingExactlyAfterAHead
  intro b s t hv hlast h
  obtain ⟨-, -, p, -, ⟨-, hd⟩ | ⟨hc, -⟩⟩ := execFeed_next h
  · obtain rfl | ⟨hpend, hout⟩ := dispatch_v3_pending (s := (s.withBuf p).withAcc 0) hv hd
    · exact ⟨iff_of_true rfl rfl, fun _ => rfl⟩
    · exact ⟨iff_of_false (ne_true_of_eq_false hpend) hout,
        fun hp => absurd hp (ne_true_of_eq_false hpend)⟩
  · exact absurd ((completes_eq_true_iff s).mpr hlast) (ne_true_of_eq_false hc)

end Sys2Proof.Machine
end

section
/-! The parity ROM as the parity of the number of one bits, the V1 validator as three parity equations,
and what FEED does when the validator drops a packet (R140 to R144). -/

namespace Sys2Proof.Machine

/-! ### The number of one bits of a word -/

theorem concat_false_add_one {w : Nat} (x : BitVec w) : x.concat false + 1 = x.concat true := by
  apply BitVec.eq_of_toNat_eq
  have hx := x.isLt
  have hlt : x.toNat * 2 + 1 < 2 ^ (w + 1) := by omega
  simp [BitVec.toNat_concat, Nat.mod_eq_of_lt hlt]

theorem concat_true_add_one {w : Nat} (x : BitVec w) :
    x.concat true + 1 = (x + 1).concat false := by
  apply BitVec.eq_of_toNat_eq
  have hcarry : x.toNat * 2 + 1 + 1 = (x.toNat + 1) * 2 := by omega
  simp [BitVec.toNat_concat, hcarry, Nat.pow_succ, Nat.mul_mod_mul_right]

/-- Clearing the lowest one bit of a word (R140) leaves one bit fewer. -/
theorem toNat_cpop_and_sub_one_add_one {w : Nat} {x : BitVec w} (hx : x ≠ 0) :
    (x &&& (x - 1)).cpop.toNat + 1 = x.cpop.toNat := by
  induction x using BitVec.concat_induction with
  | nil => exact absurd rfl hx
  | concat y b ih =>
    cases b
    case true =>
      have hpred : y.concat true - 1 = y.concat false :=
        sub_eq_iff_eq_add.mpr (concat_false_add_one y).symm
      rw [hpred, BitVec.concat_and_concat]
      simp [BitVec.toNat_cpop_concat, Nat.add_comm]
    case false =>
      have hy : y ≠ 0 := by
        rintro rfl
        exact hx (by simp)
      have hpred : y.concat false - 1 = (y - 1).concat true := by
        rw [sub_eq_iff_eq_add, concat_true_add_one, sub_add_cancel]
      rw [hpred, BitVec.concat_and_concat, BitVec.toNat_cpop_concat, BitVec.toNat_cpop_concat]
      simpa using ih hy

/-- The one bits of a word, counted below `n`. -/
theorem cpopNatRec_eq_countP {w : Nat} (x : BitVec w) (n : Nat) :
    x.cpopNatRec n 0 = (List.range n).countP (fun k => x.getLsbD k) := by
  induction n with
  | zero => rfl
  | succ n ih =>
    rw [BitVec.cpopNatRec_succ, BitVec.cpopNatRec_eq, ih, List.range_succ, List.countP_append]
    cases hb : x.getLsbD n <;> simp [hb]

theorem cpopNatRec_xor_mod_two {w : Nat} (x y : BitVec w) (n : Nat) :
    (x ^^^ y).cpopNatRec n 0 % 2 = (x.cpopNatRec n 0 + y.cpopNatRec n 0) % 2 := by
  induction n with
  | zero => rfl
  | succ n ih =>
    simp only [BitVec.cpopNatRec_succ, BitVec.cpopNatRec_eq (0 + _), BitVec.getLsbD_xor]
    cases x.getLsbD n <;> cases y.getLsbD n <;> simp <;> omega

/-- Modulo 2, the one bits of an exclusive or are those of both words. -/
theorem toNat_cpop_xor_mod_two {w : Nat} (x y : BitVec w) :
    (x ^^^ y).cpop.toNat % 2 = (x.cpop.toNat + y.cpop.toNat) % 2 := by
  simp only [BitVec.toNat_cpop, cpopNatRec_xor_mod_two]

/-! ### The parity ROM -/

/-- As many lookups as the index has one bits find the parity of their number. -/
theorem parityFrom_eq_decide {fuel : Nat} {i : Byte} (h : i.cpop.toNat ≤ fuel) :
    parityFrom fuel i = decide (i.cpop.toNat % 2 = 0) := by
  induction fuel generalizing i with
  | zero => simp [parityFrom, Nat.le_zero.mp h]
  | succ fuel ih =>
    by_cases hi : i = 0
    · subst hi
      rfl
    · have hc := toNat_cpop_and_sub_one_add_one hi
      rw [parityFrom, if_neg hi, ih (by omega), ← decide_not]
      exact decide_eq_decide.mpr (by omega)

/-- An entry of the ROM is 1 exactly for an even number of one bits (R141). -/
theorem parity_eq_decide (i : Byte) : parity i = decide (i.cpop.toNat % 2 = 0) :=
  parityFrom_eq_decide (BitVec.toNat_cpop_le i)

/-- The parity of an exclusive or: two bytes of one parity give an even one. -/
theorem parity_xor (a b : Byte) : parity (a ^^^ b) = (parity a == parity b) := by
  have h := toNat_cpop_xor_mod_two a b
  simp only [parity_eq_decide, Bool.beq_eq_decide_eq, decide_eq_decide]
  omega

/-- Flipping one bit of a byte changes its parity. -/
theorem parity_xor_one_shiftLeft (b : Byte) {k : Nat} (hk : k < 8) :
    parity (b ^^^ (1#8 <<< k)) = !parity b := by
  have hone : ∀ k < 8, parity (1#8 <<< k) = false := by decide
  simp [parity_xor, hone k hk]

/-- Settles O23: one bit fewer is the other parity. -/
theorem parityTableFollowsItsRecurrence : Obligations.ParityTableFollowsItsRecurrence := by
  unfold Obligations.ParityTableFollowsItsRecurrence
  refine ⟨rfl, fun i hi => ?_⟩
  have hc := toNat_cpop_and_sub_one_add_one hi
  rw [parity_eq_decide, parity_eq_decide, ← decide_not]
  exact decide_eq_decide.mpr (by omega)

/-- Settles O24: the number of one bits is the count over the eight places. -/
theorem parityIsOneForAnEvenNumberOfOnes : Obligations.ParityIsOneForAnEvenNumberOfOnes := by
  unfold Obligations.ParityIsOneForAnEvenNumberOfOnes
  intro i
  rw [parity_eq_decide, BitVec.toNat_cpop, cpopNatRec_eq_countP]

/-! ### The V1 validator -/

/-- A packet is valid when each of its three data bytes agrees with its parity bit (R143). -/
theorem parityOk_eq_true_iff (era : Era) (p : Packet) :
    parityOk era p = true ↔
      parity p.b1 = Layout.v1P1 era p ∧ parity p.b2 = Layout.v1P2 era p ∧
        parity p.b3 = Layout.v1P3 p := by
  simp [parityOk, and_assoc]

/-- Settles O25: a flipped bit of a data byte changes its parity, and a flipped parity bit is the one
that the era compares with one of them. -/
theorem oneFlippedBitFailsTheParityCheck : Obligations.OneFlippedBitFailsTheParityCheck := by
  unfold Obligations.OneFlippedBitFailsTheParityCheck
  intro era p h
  obtain ⟨h1, h2, h3⟩ := (parityOk_eq_true_iff era p).mp h
  simp only [← Bool.not_eq_true, parityOk_eq_true_iff]
  refine ⟨fun k hk => ⟨?_, ?_, ?_⟩, ?_, ?_, ?_⟩
  · simp [parity_xor_one_shiftLeft _ hk, Layout.v1P1, h1]
  · simp [parity_xor_one_shiftLeft _ hk, Layout.v1P2, h2]
  · simp [parity_xor_one_shiftLeft _ hk, Layout.v1P3, h3]
  · simp [h3, Layout.v1P3]
  · cases era <;> simp [h1, h2, Layout.v1P1, Layout.v1P2]
  · cases era <;> simp [h1, h2, Layout.v1P1, Layout.v1P2]

/-! ### The parity drop -/

theorem v1Packet_outcome_ne_v1ParityDrop {fingers : Nat} {x y : BitVec 10} {left right : Bool}
    {forward back : Option Bool} {s : State} :
    (v1Packet fingers x y left right forward back s).out.outcome ≠ .v1ParityDrop := by
  obtain ⟨-, h⟩ | ⟨-, h⟩ := v1Packet_cases fingers x y left right forward back s <;>
    rw [h] <;> nofun

theorem v3Packet_outcome_ne_v1ParityDrop {fingers : Nat} {positions : List Pos} {pressure : Byte}
    {width : BitVec 4} {left right : Bool} {oc : OutcomeCode} {s : State}
    (hoc : oc ≠ .v1ParityDrop) :
    (v3Packet fingers positions pressure width left right oc s).out.outcome ≠ .v1ParityDrop := by
  obtain ⟨-, h⟩ | ⟨-, h⟩ := v3Packet_cases fingers positions pressure width left right oc s <;>
    rw [h]
  · nofun
  · exact hoc

theorem relOutcome_ne_v1ParityDrop (o : FocRelForm) : relOutcome o ≠ .v1ParityDrop := by
  unfold relOutcome
  split <;> nofun

/-- No packet operation reports a parity drop: that outcome is the validator's alone (R142). -/
theorem exec_packetOp_outcome_ne_v1ParityDrop {i : Instr} (hi : i.isPacketOp = true) {s t : State}
    (h : exec i s = .next t) : t.out.outcome ≠ .v1ParityDrop := by
  cases i
  case v1Old | v1New =>
    cases h
    exact v1Packet_outcome_ne_v1ParityDrop
  case v3F0 | v3F1 | v3F3 =>
    cases h
    exact v3Packet_outcome_ne_v1ParityDrop nofun
  case v3Tail o =>
    cases h
    split
    · exact v3Packet_outcome_ne_v1ParityDrop nofun
    · exact v3Packet_outcome_ne_v1ParityDrop nofun
  case focAbs o =>
    obtain ⟨-, he⟩ | ⟨_, -, he⟩ := execFocAbs_cases o s <;> cases he.symm.trans h <;> nofun
  case focRel o =>
    cases h
    exact relOutcome_ne_v1ParityDrop o
  case feed | init | disconnect | setParitycheck | setDebug => cases hi
  all_goals
    cases h
    nofun

/-- A dispatch with that outcome is the validator's drop of the packet (R142, R144). -/
theorem dispatch_v1ParityDrop {s t : State} (h : dispatch s = .next t)
    (hout : t.out.outcome = .v1ParityDrop) :
    parityDrops s = true ∧ t = raiseOutcome .v1ParityDrop s := by
  obtain ⟨hdrop, he⟩ | ⟨-, he⟩ := dispatch_cases s
  · exact ⟨hdrop, Host.Outcome.next.inj (h.symm.trans he)⟩
  · exact absurd hout
      (exec_packetOp_outcome_ne_v1ParityDrop (decodePacket_isPacketOp ..) (he.symm.trans h))

/-- Settles O26: only a byte that completes a packet reaches the validator, and the drop writes the
ports alone. -/
theorem parityDropsOnlyInvalidV1Packets : Obligations.ParityDropsOnlyInvalidV1Packets := by
  unfold Obligations.ParityDropsOnlyInvalidV1Packets
  intro b s t h hout
  obtain ⟨-, -, p, -, ⟨-, hd⟩ | ⟨-, rfl⟩⟩ := execFeed_next h
  · obtain ⟨hdrop, rfl⟩ := dispatch_v1ParityDrop hd hout
    obtain ⟨hv, hcheck, hbad⟩ := (parityDrops_eq_true_iff _).mp hdrop
    exact ⟨hv, hcheck, hbad, rfl⟩
  · cases hout

end Sys2Proof.Machine
end

section
/-! The two ends of a V1 packet as whole next states, and the jumpy-cursor workaround along a run of
one-finger packets (R150 to R157). -/

namespace Sys2Proof.Machine

/-! ### The jumpy-cursor test and its counter -/

/-- The workaround discards exactly a one-finger packet below streak 2 (R152). -/
theorem jumpyDiscards_eq_true_iff {workaround : Bool} {fingers : Nat} {streak : BitVec 2} :
    jumpyDiscards workaround fingers streak = true ↔
      workaround = true ∧ fingers = 1 ∧ streak.toNat < 2 := by
  simp [jumpyDiscards, streakMax, and_assoc]

/-- A discarded packet is counted. -/
theorem nextStreak_of_jumpyDiscards {workaround : Bool} {fingers : Nat} {streak : BitVec 2}
    (h : workaround = true ∧ fingers = 1 ∧ streak.toNat < 2) :
    nextStreak workaround fingers streak = streak + 1 := by
  obtain ⟨hw, hf, hlt⟩ := h
  simp [nextStreak, streakMax, hw, hf, hlt]

/-- A reported packet starts the streak again under the workaround when it is not of one finger, and
keeps it otherwise (D10). -/
theorem nextStreak_of_not_jumpyDiscards {workaround : Bool} {fingers : Nat} {streak : BitVec 2}
    (h : ¬ (workaround = true ∧ fingers = 1 ∧ streak.toNat < 2)) :
    nextStreak workaround fingers streak =
      if workaround = true ∧ fingers ≠ 1 then 0 else streak := by
  unfold nextStreak
  by_cases hw : workaround = true
  · by_cases hf : fingers = 1
    · have hge : ¬ streak.toNat < streakMax := fun hlt => h ⟨hw, hf, hlt⟩
      simp [hf, hge]
    · simp [hw, hf]
  · simp [hw]

/-! ### The next state of a V1 packet -/

/-- A discarded V1 packet counts in `streak` and gives no frame (R152). -/
theorem v1Packet_of_jumpyDiscards {fingers : Nat} {s : State}
    (h : s.cfg.jumpyCursorWorkaround = true ∧ fingers = 1 ∧ s.streak.toNat < 2)
    (x y : BitVec 10) (left right : Bool) (forward back : Option Bool) :
    v1Packet fingers x y left right forward back s =
      { s with streak := s.streak + 1, out := ⟨true, none, .v1JumpyDiscard⟩ } := by
  obtain ⟨-, he⟩ | ⟨hkept, -⟩ := v1Packet_cases fingers x y left right forward back s
  · rw [he, nextStreak_of_jumpyDiscards h]
    rfl
  · exact absurd (jumpyDiscards_eq_true_iff.mpr h) (ne_true_of_eq_false hkept)

/-- Any other V1 packet gives its frame (R150). -/
theorem v1Packet_of_not_jumpyDiscards {fingers : Nat} {s : State}
    (h : ¬ (s.cfg.jumpyCursorWorkaround = true ∧ fingers = 1 ∧ s.streak.toNat < 2))
    (x y : BitVec 10) (left right : Bool) (forward back : Option Bool) :
    v1Packet fingers x y left right forward back s =
      { s with
        streak := if s.cfg.jumpyCursorWorkaround = true ∧ fingers ≠ 1 then 0 else s.streak
        out := ⟨true,
          some (v1Frame fingers (v1Pos s.cfg.yMax x y) left right forward back), .frame⟩ } := by
  obtain ⟨hdiscarded, -⟩ | ⟨-, he⟩ := v1Packet_cases fingers x y left right forward back s
  · exact absurd (jumpyDiscards_eq_true_iff.mp hdiscarded) h
  · rw [he, nextStreak_of_not_jumpyDiscards h]
    rfl

/-- Settles O28: the operation is the V1 packet of count `f + m`. -/
theorem v1OldReportsOrDiscards : Obligations.V1OldReportsOrDiscards := by
  unfold Obligations.V1OldReportsOrDiscards
  intro o s
  exact ⟨fun h => congrArg _ (v1Packet_of_jumpyDiscards h ..),
    fun h => congrArg _ (v1Packet_of_not_jumpyDiscards h ..)⟩

/-- Settles O27: the operation is the V1 packet of its count field, compared as a number. -/
theorem v1NewReportsOrDiscards : Obligations.V1NewReportsOrDiscards := by
  unfold Obligations.V1NewReportsOrDiscards
  intro o s
  have hone : o.fingers = 1#2 ↔ o.fingers.toNat = 1 := BitVec.toNat_inj.symm
  have hzero : o.fingers = 0#2 ↔ o.fingers.toNat = 0 := BitVec.toNat_inj.symm
  simp only [ne_eq, hone, hzero]
  exact ⟨fun h => congrArg _ (v1Packet_of_jumpyDiscards h ..),
    fun h => congrArg _ (v1Packet_of_not_jumpyDiscards h ..)⟩

/-! ### A run of one-finger packets -/

/-- Under the workaround a one-finger operation of either era is discarded and counted below
streak 2. -/
theorem exec_one_finger_discarded {i : Instr} {s : State} (hi : v1Count i = some 1)
    (hw : s.cfg.jumpyCursorWorkaround = true) (hlt : s.streak.toNat < 2) :
    exec i s =
      .next { s with streak := s.streak + 1, out := ⟨true, none, .v1JumpyDiscard⟩ } := by
  obtain ⟨_, _, _, _, _, _, he⟩ := exec_of_v1Count hi s
  rw [he, v1Packet_of_jumpyDiscards ⟨hw, rfl, hlt⟩]

/-- At streak 2 it is reported, and the streak stays (D10). -/
theorem exec_one_finger_reported {i : Instr} {s : State} (hi : v1Count i = some 1)
    (hge : ¬ s.streak.toNat < 2) :
    ∃ f, exec i s = .next { s with out := ⟨true, some f, .frame⟩ } := by
  obtain ⟨_, _, _, _, _, _, he⟩ := exec_of_v1Count hi s
  rw [he, v1Packet_of_not_jumpyDiscards (fun h => hge h.2.2), if_neg (fun h => h.2 rfl)]
  exact ⟨_, rfl⟩

/-- Under the workaround a V1 operation of any other count is reported and starts the streak again. -/
theorem exec_other_count_reported {i : Instr} {n : Nat} {s : State} (hi : v1Count i = some n)
    (hn : n ≠ 1) (hw : s.cfg.jumpyCursorWorkaround = true) :
    ∃ f, exec i s = .next { s with streak := 0, out := ⟨true, some f, .frame⟩ } := by
  obtain ⟨_, _, _, _, _, _, he⟩ := exec_of_v1Count hi s
  rw [he, v1Packet_of_not_jumpyDiscards (fun h => hn h.2.1), if_pos ⟨hw, hn⟩]
  exact ⟨_, rfl⟩

/-- Settles O29: the streak counts 0, 1, 2 through the two discarded packets, and stays at 2. -/
theorem twoOneFingerPacketsAreDiscardedAfterAnyOtherCount :
    Obligations.TwoOneFingerPacketsAreDiscardedAfterAnyOtherCount := by
  unfold Obligations.TwoOneFingerPacketsAreDiscardedAfterAnyOtherCount
  intro i a b c n s hw hi hn ha hb hc
  obtain ⟨f, ht⟩ := exec_other_count_reported hi hn hw
  have hu := exec_one_finger_discarded
    (s := { s with streak := 0, out := ⟨true, some f, .frame⟩ }) ha hw (by simp)
  have hv := exec_one_finger_discarded
    (s := { s with streak := 1, out := ⟨true, none, .v1JumpyDiscard⟩ }) hb hw (by simp)
  obtain ⟨_, hx⟩ := exec_one_finger_reported
    (s := { s with streak := 2, out := ⟨true, none, .v1JumpyDiscard⟩ }) hc (by simp)
  exact ⟨_, _, _, _, ht, hu, hv, hx, rfl, rfl, rfl, rfl, rfl, rfl, rfl, rfl⟩

end Sys2Proof.Machine
end

section
/-! The semi-MT emission entry by entry, and the V2 packets as whole next states (R171 to R178,
R233). -/

namespace Sys2Proof.Machine

/-! ### Semi-MT emission -/

/-- Slot 0 is active exactly when there are fingers (R233). -/
theorem semiMtSlots_zero (fingers : Nat) (pos1 pos2 : Option Pos) (v : Vector Slot 5) :
    (semiMtSlots fingers pos1 pos2 v)[0] = semiMtSlot (fingers != 0) pos1 v[0] := by
  simp [semiMtSlots, setSlot]

/-- Slot 1 is active exactly when there are two (R233). -/
theorem semiMtSlots_one (fingers : Nat) (pos1 pos2 : Option Pos) (v : Vector Slot 5) :
    (semiMtSlots fingers pos1 pos2 v)[1] = semiMtSlot (fingers == 2) pos2 v[1] := by
  simp [semiMtSlots, setSlot]

/-! ### The next state of a V2 packet -/

/-- A V2 packet presents its semi-MT frame, writes slots 0 and 1, and keeps every other register
(R171, R233). -/
theorem v2Packet_next {fingers : Nat} {d : V2Decoded} {left right : Bool} {s t : State}
    (h : v2Packet fingers d left right s = t) :
    t = { s with
      slots := t.slots
      out := ⟨true, some (semiMtFrame s.cfg.reportsPressure fingers d.pos1 d.pos2 d.legacy
        d.pressure d.width left right), .frame⟩ } ∧
    t.slots[0] = semiMtSlot (fingers != 0) d.pos1 s.slots[0] ∧
    t.slots[1] = semiMtSlot (fingers == 2) d.pos2 s.slots[1] ∧ upperSlotsKept s t := by
  subst h
  exact ⟨rfl, semiMtSlots_zero .., semiMtSlots_one .., semiMtSlots_upper ..⟩

/-- Settles O30: count 0 makes both slots inactive and leaves no position to report. -/
theorem v2NoFingerReleasesBothSlots : Obligations.V2NoFingerReleasesBothSlots := by
  unfold Obligations.V2NoFingerReleasesBothSlots
  intro o s
  exact ⟨_, rfl, v2Packet_next (rfl : v2Packet 0 v2None o.left o.right s = _)⟩

/-- Settles O31: the three operations are the V2 packet of one decoding, with slot 0 active and
slot 1 inactive at each of the counts 1, 3 and 4. -/
theorem v2OnePositionCountsShareOneDecoding : Obligations.V2OnePositionCountsShareOneDecoding := by
  unfold Obligations.V2OnePositionCountsShareOneDecoding
  intro o s i n hi
  have hpacket := v2Packet_next (rfl : v2Packet n (v2One s.cfg.yMax o) o.left o.right s = _)
  obtain ⟨rfl, rfl⟩ | ⟨rfl, rfl⟩ | ⟨rfl, rfl⟩ := hi <;> exact ⟨_, rfl, hpacket⟩

/-- The shift by 2 is a multiplication by 4 within 16 bits (R12(c)). -/
theorem legacyShift_eq_ofNat (p : Pos) :
    legacyShift p = ⟨BitVec.ofNat 16 (p.x.toNat * 4), BitVec.ofNat 16 (p.y.toNat * 4)⟩ :=
  congrArg₂ Pos.mk (congrArg (BitVec.ofNat 16) (Nat.shiftLeft_eq p.x.toNat 2))
    (congrArg (BitVec.ofNat 16) (Nat.shiftLeft_eq p.y.toNat 2))

/-- The legacy position of a two-finger packet, from the raw X and the inverted Y (R175). -/
theorem v2Two_legacy (yMax2ft : Coord) (o : V2TwoForm) :
    (v2Two yMax2ft o).legacy =
      some ⟨BitVec.ofNat 16 (o.ax.toNat * 4),
        BitVec.ofNat 16 ((yMax2ft - o.ay.setWidth 16).toNat * 4)⟩ := by
  have hx : (o.ax.setWidth 16).toNat = o.ax.toNat := BitVec.toNat_setWidth_of_le (by decide)
  simp only [v2Two, legacyShift_eq_ofNat, v2Pos9, invertY, hx]

/-- Settles O32: count 2 makes both slots active; the legacy position is finger a's, shifted. -/
theorem v2TwoFingersReportBothAndShiftTheLegacyPosition :
    Obligations.V2TwoFingersReportBothAndShiftTheLegacyPosition := by
  unfold Obligations.V2TwoFingersReportBothAndShiftTheLegacyPosition
  intro o s
  have hpacket := v2Packet_next (rfl : v2Packet 2 (v2Two s.cfg.yMax2ft o) o.left o.right s = _)
  rw [v2Two_legacy] at hpacket
  exact ⟨_, rfl, hpacket⟩

end Sys2Proof.Machine
end

section
/-! The V3 bounds check on raw coordinates, and the V3 packets as whole next states (R191 to R199,
R233). -/

namespace Sys2Proof.Machine

/-! ### The bounds check on raw coordinates -/

/-- The inversion wraps exactly when the raw Y is beyond its bound, and a wrapped Y exceeds the bound
because the raw Y is no whole turn (R196, D2). -/
theorem lt_invertY_iff {yMax : Coord} {raw : BitVec 12} :
    yMax.toNat < (invertY yMax raw).toNat ↔ yMax.toNat < raw.toNat := by
  refine ⟨fun h => lt_of_not_ge fun hle => absurd h (invertY_toNat_le hle).not_gt, fun h => ?_⟩
  have hraw := raw.isLt
  have hbound := yMax.isLt
  rw [invertY, BitVec.toNat_sub, toNat_setWidth_coord]
  omega

/-- Settles O33: the test sees the wrap of the inversion. -/
theorem invertedYExceedsItsBoundExactlyWhenItWraps :
    Obligations.InvertedYExceedsItsBoundExactlyWhenItWraps := by
  unfold Obligations.InvertedYExceedsItsBoundExactlyWhenItWraps
  exact fun _ _ => lt_invertY_iff

/-- A V3 position fails the bounds check exactly when a raw coordinate is beyond its bound (R196). -/
theorem beyondBounds_v3Pos_eq_true_iff {c : SessionConfig} {x y : BitVec 12} :
    beyondBounds c (v3Pos c.yMax x y) = true ↔
      c.xMax.toNat < x.toNat ∨ c.yMax.toNat < y.toNat := by
  simp only [beyondBounds, v3Pos, Bool.or_eq_true, decide_eq_true_iff, toNat_setWidth_coord,
    lt_invertY_iff]

/-! ### The next state of a V3 packet -/

/-- A V3 packet with a position out of bounds only clears the pending packet (R196, R199, D22). -/
theorem v3Packet_of_beyondBounds {positions : List Pos} {s : State}
    (hout : positions.any (beyondBounds s.cfg) = true) (fingers : Nat) (pressure : Byte)
    (width : BitVec 4) (left right : Bool) (oc : OutcomeCode) :
    v3Packet fingers positions pressure width left right oc s =
      { s.clearPend with out := ⟨true, none, .v3BoundsReject⟩ } := by
  obtain ⟨-, he⟩ | ⟨hin, -⟩ := v3Packet_cases fingers positions pressure width left right oc s
  · exact he
  · exact absurd hout (ne_true_of_eq_false hin)

/-- Any other V3 packet presents its semi-MT frame, clears the pending packet, writes slots 0 and 1,
and keeps every other register (R191, R199, R233). -/
theorem v3Packet_next {fingers : Nat} {positions : List Pos} {pressure : Byte} {width : BitVec 4}
    {left right : Bool} {oc : OutcomeCode} {s t : State}
    (hin : positions.any (beyondBounds s.cfg) = false)
    (h : v3Packet fingers positions pressure width left right oc s = t) :
    t = { s.clearPend with
      slots := t.slots
      out := ⟨true, some (semiMtFrame s.cfg.reportsPressure fingers positions[0]? positions[1]?
        positions[0]? pressure (width.setWidth 8) left right), oc⟩ } ∧
    t.slots[0] = semiMtSlot (fingers != 0) positions[0]? s.slots[0] ∧
    t.slots[1] = semiMtSlot (fingers == 2) positions[1]? s.slots[1] ∧ upperSlotsKept s t := by
  obtain ⟨hout, -⟩ | ⟨-, he⟩ := v3Packet_cases fingers positions pressure width left right oc s
  · exact absurd hout (ne_true_of_eq_false hin)
  · subst h
    rw [he]
    exact ⟨rfl, semiMtSlots_zero .., semiMtSlots_one .., semiMtSlots_upper ..⟩

/-- Settles O34: count 0 has no position to check, and makes both slots inactive. -/
theorem v3NoFingerReleasesAndClearsPending : Obligations.V3NoFingerReleasesAndClearsPending := by
  unfold Obligations.V3NoFingerReleasesAndClearsPending
  intro o s
  exact ⟨_, rfl,
    v3Packet_next List.any_nil (rfl : v3Packet 0 [] o.pressure o.width o.left o.right .frame s = _)⟩

/-! ### Packets of one position -/

section

variable {x y : BitVec 12} {s : State}

/-- A packet of one position is rejected when a raw coordinate is beyond its bound. -/
theorem v3Packet_one_of_beyond (h : s.cfg.xMax.toNat < x.toNat ∨ s.cfg.yMax.toNat < y.toNat)
    (fingers : Nat) (pressure : Byte) (width : BitVec 4) (left right : Bool) (oc : OutcomeCode) :
    v3Packet fingers [v3Pos s.cfg.yMax x y] pressure width left right oc s =
      { s.clearPend with out := ⟨true, none, .v3BoundsReject⟩ } :=
  v3Packet_of_beyondBounds (by simp [beyondBounds_v3Pos_eq_true_iff.mpr h]) ..

/-- The list of its one position passes the check when both raw coordinates are within the bounds. -/
theorem any_beyondBounds_one (hx : x.toNat ≤ s.cfg.xMax.toNat) (hy : y.toNat ≤ s.cfg.yMax.toNat) :
    [v3Pos s.cfg.yMax x y].any (beyondBounds s.cfg) = false := by
  simp [beyondBounds_v3Pos_eq_false hx hy]

end

/-- Settles O35: the two operations are the V3 packet of one position, with slot 0 active and slot 1
inactive at counts 1 and 3. -/
theorem v3OneFingerReportsOrRejects : Obligations.V3OneFingerReportsOrRejects := by
  unfold Obligations.V3OneFingerReportsOrRejects
  intro o s i n hi
  have hpacket : exec i s =
      .next (v3Packet n [v3Pos s.cfg.yMax o.x o.y] o.pressure o.width o.left o.right .frame s) := by
    obtain ⟨rfl, rfl⟩ | ⟨rfl, rfl⟩ := hi <;> rfl
  refine ⟨fun h => hpacket.trans (congrArg _ (v3Packet_one_of_beyond h ..)), fun hx hy => ?_⟩
  have hnext := v3Packet_next (any_beyondBounds_one hx hy)
    (rfl : v3Packet n _ o.pressure o.width o.left o.right .frame s = _)
  obtain ⟨-, rfl⟩ | ⟨-, rfl⟩ := hi <;> exact ⟨_, hpacket, hnext⟩

/-! ### HEAD and TAIL -/

/-- Settles O36: a HEAD's whole meaning is to store its bytes and raise its outcome. -/
theorem v3HeadIsStoredWithoutAFrame : Obligations.V3HeadIsStoredWithoutAFrame := by
  unfold Obligations.V3HeadIsStoredWithoutAFrame
  exact fun _ _ => rfl

/-- Where nothing is pending there is nothing to clear. -/
theorem clearPend_eq_self {s : State} (h : s.pendValid = false) : s.clearPend = s := by
  rw [State.clearPend, ← h]

/-- With nothing pending a TAIL is one finger (R193(b)). -/
theorem exec_v3Tail_unpaired {s : State} (h : s.pendValid = false) (o : V3TailForm) :
    exec (.v3Tail o) s = .next (v3Unpaired o s) :=
  congrArg _ (if_neg (ne_true_of_eq_false h))

/-- With a packet pending a TAIL is joined to it (R193(a)). -/
theorem exec_v3Tail_paired {s : State} (h : s.pendValid = true) (o : V3TailForm) :
    exec (.v3Tail o) s = .next (v3Paired o s) :=
  congrArg _ (if_pos h)

/-- Settles O37: the operation is the V3 packet of its own position, whose outcome is
`V3_TAIL_UNPAIRED` only when it is not rejected; nothing was pending, so clearing changes nothing. -/
theorem v3UnpairedTailIsOneFinger : Obligations.V3UnpairedTailIsOneFinger := by
  unfold Obligations.V3UnpairedTailIsOneFinger
  intro o s hv
  have hpacket := exec_v3Tail_unpaired hv o
  refine ⟨fun h => ?_, fun hx hy => ⟨_, hpacket, ?_⟩⟩
  · rw [hpacket, v3Unpaired, v3Packet_one_of_beyond h, clearPend_eq_self hv]
  · have hnext := v3Packet_next (any_beyondBounds_one hx hy) (rfl : v3Unpaired o s = _)
    rw [clearPend_eq_self hv] at hnext
    exact hnext

/-- Settles O38: the operation is the V3 packet of the pending position and its own, either of which
may fail the check; count 2 makes both slots active. -/
theorem v3PairedTailJoinsThePendingPacket : Obligations.V3PairedTailJoinsThePendingPacket := by
  unfold Obligations.V3PairedTailJoinsThePendingPacket
  intro o s hv
  have hpacket := exec_v3Tail_paired hv o
  refine ⟨fun h => ?_, fun hx1 hy1 hx2 hy2 => ⟨_, hpacket, ?_⟩⟩
  · have hout : [v3Pos s.cfg.yMax (Layout.v3X s.pend) (Layout.v3Y s.pend),
        v3Pos s.cfg.yMax o.x o.y].any (beyondBounds s.cfg) = true := by
      simpa [beyondBounds_v3Pos_eq_true_iff, or_assoc] using h
    exact hpacket.trans (congrArg _ (v3Packet_of_beyondBounds hout ..))
  · have h1 := beyondBounds_v3Pos_eq_false hx1 hy1
    have h2 := beyondBounds_v3Pos_eq_false hx2 hy2
    exact v3Packet_next (by simp [h1, h2]) (rfl : v3Paired o s = _)

end Sys2Proof.Machine
end

section
/-! The FOCAL packets as whole next states: the slot an Abs or a Rel finger names, entry by entry, and
the resync frame that ends every packet (R211 to R219, R236, R237). -/

namespace Sys2Proof.Machine

/-! ### The resync frame -/

/-- Settles O43: the byte completes a packet, FOCAL has no validator to drop it, and every FOCAL
operation ends in the resync of what it leaves. -/
theorem everyFocalPacketResyncs : Obligations.EveryFocalPacketResyncs := by
  unfold Obligations.EveryFocalPacketResyncs
  intro b s hv hlive hlast
  obtain ⟨p, -, hfeed⟩ := execFeed_last_eq_dispatch b hlive hlast
  have hdispatch := dispatch_eq_exec (s := (s.withBuf p).withAcc 0) (by simp [hv])
  obtain ⟨oe, hc⟩ := exists_contextOf_decodePacket s.cfg.hwVersion s.era p
  rw [hv] at hc
  obtain ⟨oc, pressed, v, he⟩ := exec_eq_focResync hc ((s.withBuf p).withAcc 0)
  exact ⟨_, hfeed.trans (hdispatch.trans (hv ▸ he)), rfl⟩

/-- Settles O50: the operation is the resync alone. -/
theorem focUnkChangesNothingAndResyncs : Obligations.FocUnkChangesNothingAndResyncs := by
  unfold Obligations.FocUnkChangesNothingAndResyncs
  exact fun _ _ => rfl

/-- Settles O51: both frames are the resync of the registers that the first packet left. -/
theorem unknownKindRepeatsThePreviousFrame : Obligations.UnknownKindRepeatsThePreviousFrame := by
  unfold Obligations.UnknownKindRepeatsThePreviousFrame
  intro i k s t u hc ht hu
  obtain ⟨_, _, _, he⟩ := exec_eq_focResync hc s
  cases he.symm.trans ht
  cases hu
  exact ⟨rfl, rfl⟩

/-- The reports of a FOCAL frame are those of the slots, in order (R236). -/
theorem focFrame_slots_getElem? (v : Vector Slot 5) (pressed : Bool) (i : Fin 5) :
    (focFrame v pressed).slots[i.val]? = some (focReport i v[i]) := by
  match i with
  | 0 | 1 | 2 | 3 | 4 => rfl

/-! ### The slots a packet writes -/

/-- A slot file with one entry replaced, at any index. -/
theorem setSlot_getElem (v : Vector Slot 5) (i j : Fin 5) (e : Slot) :
    (setSlot v i e)[j] = if i = j then e else v[j] := by
  split_ifs with h
  · subst h
    exact setSlot_getElem_self ..
  · exact setSlot_getElem_ne _ _ h

/-- Bit `i` of the bitmap goes to slot `i` (R212, D23). -/
theorem touchSlots_getElem (bitmap : BitVec 5) (v : Vector Slot 5) (i : Fin 5) :
    (touchSlots bitmap v)[i] = touchSlot (bitmap.getLsbD i) v[i] := by
  simp [touchSlots]

/-- Settles O44: each slot takes its bit of the bitmap. -/
theorem focTouchSetsActivity : Obligations.FocTouchSetsActivity := by
  unfold Obligations.FocTouchSetsActivity
  exact fun o s => ⟨_, rfl, rfl, touchSlots_getElem o.bitmap s.slots⟩

/-! ### `FOC_ABS` -/

/-- A finger index names no slot exactly when it is 0 or above 5 (R77, R215). -/
theorem slotOfFinger_eq_none {k : Nat} : slotOfFinger k = none ↔ k = 0 ∨ 6 ≤ k := by
  unfold slotOfFinger
  split_ifs with h
  · simp only [false_iff]
    omega
  · simp only [true_iff]
    omega

/-- Settles O47: such a finger names no slot, and only the resync is left. -/
theorem focAbsIgnoresOtherFingers : Obligations.FocAbsIgnoresOtherFingers := by
  unfold Obligations.FocAbsIgnoresOtherFingers
  intro o s hfinger
  have hnone := slotOfFinger_eq_none.mpr hfinger
  obtain ⟨-, he⟩ | ⟨i, hsome, -⟩ := execFocAbs_cases o s
  · exact he
  · cases hnone.symm.trans hsome

/-- An Abs packet for a finger that names a slot writes that slot and the click state (R214, D24). -/
theorem exec_focAbs_of_finger {o : FocAbsForm} {i : Fin 5} (h : o.fidx.toNat = i.val + 1)
    (s : State) :
    exec (.focAbs o) s = .next (focResync .frame ((s.withPressed o.pressed).withSlots
      (setSlot s.slots i (absSlot s.focalYHiMask o s.slots[i])))) := by
  have hsome := slotOfFinger_eq_some.mpr h
  obtain ⟨hnone, -⟩ | ⟨j, hj, he⟩ := execFocAbs_cases o s
  · cases hnone.symm.trans hsome
  · cases hj.symm.trans hsome
    exact he

/-- At the sentinel size a slot only loses `valid` (R216). -/
theorem absSlot_of_sentinel {o : FocAbsForm} (h : o.z = 0xFF) (mask : Byte) (e : Slot) :
    absSlot mask o e = { e with valid := false } :=
  if_pos h

/-- At any other size it becomes valid at the packet's position (R214). -/
theorem absSlot_of_not_sentinel {o : FocAbsForm} (h : o.z ≠ 0xFF) (mask : Byte) (e : Slot) :
    absSlot mask o e =
      { e with valid := true, x := o.x.setWidth 16, y := focAbsY mask o.yHi o.yLo } :=
  if_neg h

/-- The Y of an Abs packet as a number: the masked byte 3 is its high part (R104). -/
theorem focAbsY_eq_ofNat (mask yHi yLo : Byte) :
    focAbsY mask yHi yLo = BitVec.ofNat 16 ((yHi &&& mask).toNat * 256 + yLo.toNat) := by
  refine BitVec.eq_of_toNat_eq ?_
  have hvalue : (focAbsY mask yHi yLo).toNat = (yHi &&& mask).toNat * 256 + yLo.toNat := by
    rw [focAbsY, BitVec.toNat_append, ← Nat.shiftLeft_add_eq_or_of_lt yLo.isLt, Nat.shiftLeft_eq]
  rw [BitVec.toNat_ofNat, ← hvalue, Nat.mod_eq_of_lt (focAbsY mask yHi yLo).isLt]

/-- Under the default mask the Y is byte 4 alone (R6). -/
theorem focAbsY_zero_mask (yHi yLo : Byte) : focAbsY 0x00 yHi yLo = yLo.setWidth 16 := by
  simp [focAbsY_eq_ofNat]

/-- Settles O45: the finger names the slot one below it, which alone is written. -/
theorem focAbsPlacesOneSlot : Obligations.FocAbsPlacesOneSlot := by
  unfold Obligations.FocAbsPlacesOneSlot
  intro o s hlow hhigh
  obtain ⟨i, hi⟩ : ∃ i : Fin 5, o.fidx.toNat = i.val + 1 :=
    ⟨⟨o.fidx.toNat - 1, by omega⟩, by simp only; omega⟩
  refine ⟨_, exec_focAbs_of_finger hi s, rfl, fun j => ?_⟩
  simp only [focResync_slots, State.withSlots_slots, setSlot_getElem]
  by_cases hj : i = j
  · subst hj
    simp only [hi, if_true]
    refine ⟨fun hne => absurd rfl hne, fun _ hz => absSlot_of_sentinel hz .., fun _ hz => ?_⟩
    rw [absSlot_of_not_sentinel hz]
    exact ⟨by rw [focAbsY_eq_ofNat], fun hmask => hmask ▸ focAbsY_zero_mask ..⟩
  · have hother : j.val + 1 ≠ o.fidx.toNat := by omega
    exact ⟨fun _ => if_neg hj, fun h => absurd h hother, fun h => absurd h hother⟩

/-- Settles O46: a slot that is not valid is reported inactive, and the size byte is only compared
with the sentinel. -/
theorem onlyTheSentinelSizeHidesTheSlot : Obligations.OnlyTheSentinelSizeHidesTheSlot := by
  unfold Obligations.OnlyTheSentinelSizeHidesTheSlot
  intro o s i hi
  refine ⟨_, exec_focAbs_of_finger hi s, rfl, fun hz => ?_, fun hz => ⟨?_, fun z hne => ?_⟩⟩
  · have hslot := (setSlot_getElem_self s.slots i _).trans
      (absSlot_of_sentinel hz s.focalYHiMask s.slots[i])
    refine ⟨hslot, _, rfl, ?_⟩
    rw [focFrame_slots_getElem?, State.withSlots_slots, hslot]
    simp [focReport, Slot.reported]
  · simp [absSlot_of_not_sentinel hz]
  · rw [exec_focAbs_of_finger (o := { o with z := z }) hi, absSlot_of_not_sentinel hz,
      absSlot_of_not_sentinel hne]

/-! ### `FOC_REL` -/

/-- One finger of a Rel packet adds its deltas to the slot its index names, and zero to any other
(R217, R218). -/
theorem relSlots_getElem (idx : BitVec 3) (dx dy : Byte) (v : Vector Slot 5) (i : Fin 5) :
    (relSlots idx dx dy v)[i] = { v[i] with
      x := v[i].x + if idx.toNat = i.val + 1 then dx.signExtend 16 else 0
      y := v[i].y + if idx.toNat = i.val + 1 then dy.signExtend 16 else 0 } := by
  by_cases h : idx.toNat = i.val + 1
  · have hmoved : (relSlots idx dx dy v)[i] = moveSlot dx dy v[i] := by
      simp only [relSlots, slotOfFinger_eq_some.mpr h, setSlot_getElem_self]
    simp only [hmoved, moveSlot, h, if_true]
  · have hkept : (relSlots idx dx dy v)[i] = v[i] := by
      unfold relSlots
      split
      · rfl
      · next j hj =>
        exact setSlot_getElem_ne _ _ fun hji => h (hji ▸ slotOfFinger_eq_some.mp hj)
    simp [hkept, h]

/-- The outcome of a Rel packet shows an index that names no slot and is not 0 (R217, R272). -/
theorem relOutcome_eq_ite (o : FocRelForm) :
    relOutcome o =
      if 6 ≤ o.idx1.toNat ∨ 6 ≤ o.idx2.toNat then .focRelBadFinger else .frame := by
  simp only [relOutcome, relBadFinger, Bool.or_eq_true, decide_eq_true_iff]

/-- Settles O48: the second finger's sum is taken of what the first finger's left. -/
theorem focRelAddsSignedDeltas : Obligations.FocRelAddsSignedDeltas := by
  unfold Obligations.FocRelAddsSignedDeltas
  intro o s
  refine ⟨_, rfl, ?_, fun i => ?_⟩
  · rw [← relOutcome_eq_ite]
    rfl
  · exact (relSlots_getElem o.idx2 o.dx2 o.dy2 _ i).trans
      (by rw [relSlots_getElem o.idx1 o.dx1 o.dy1])

/-- A Rel packet with no second finger moves the slot of its first by the first deltas. -/
theorem exec_focRel_one_finger {o : FocRelForm} {i : Fin 5} (h1 : o.idx1.toNat = i.val + 1)
    (h2 : o.idx2 = 0) (s : State) :
    ∃ t, exec (.focRel o) s = .next t ∧ t.slots[i] = moveSlot o.dx1 o.dy1 s.slots[i] := by
  obtain ⟨t, ht, -, hslots⟩ := focRelAddsSignedDeltas o s
  exact ⟨t, ht, by simp [hslots i, h1, h2, moveSlot]⟩

/-- Settles O49: the second packet moves what the first one moved. -/
theorem successiveRelPacketsAccumulate : Obligations.SuccessiveRelPacketsAccumulate := by
  unfold Obligations.SuccessiveRelPacketsAccumulate
  intro o q s i ho hq ho2 hq2
  obtain ⟨t, ht, hti⟩ := exec_focRel_one_finger ho ho2 s
  obtain ⟨u, hu, hui⟩ := exec_focRel_one_finger hq hq2 t
  rw [hti] at hui
  refine ⟨t, u, ht, hu, ?_, ?_⟩
  · rw [hui]
    exact BitVec.add_assoc ..
  · rw [hui]
    exact BitVec.add_assoc ..

end Sys2Proof.Machine
end

section
/-! Frames: the FOCAL resync frame written out slot by slot, the shape of the frames of each variant,
and the sink calls that describe a frame (R230, R231, R236, R238). -/

namespace Sys2Proof.Machine

/-! ### The shape of a V1 frame -/

/-- A V1 frame has its position exactly when a finger touches, and no slot report (R154, R157). -/
theorem v1Frame_shape {c : SessionConfig} {fingers : Nat} {forward back : Option Bool}
    (hv : c.hwVersion = .v1) (hfingers : fingers ≤ maxFingers c)
    (hforward : forward.isSome = reportsRocker c) (hback : back.isSome = reportsRocker c)
    (pos : Pos) (left right : Bool) :
    (v1Frame fingers pos left right forward back).shape c := by
  refine ⟨hfingers, nofun, ?_⟩
  rw [hv]
  have hpos (a : Coord) : (if fingers = 0 then none else some a).isSome = (fingers != 0) := by
    by_cases h : fingers = 0 <;> simp [h]
  exact ⟨hpos _, hpos _, rfl, rfl, rfl, hforward, hback, rfl⟩

/-- The touch bit and the two count bits of era OLD make at most four fingers (R151). -/
theorem v1OldFingers_le (f : Bool) (m : BitVec 2) : v1OldFingers f m ≤ 4 := by
  have hf := f.toNat_le
  have hm := m.isLt
  unfold v1OldFingers
  omega

theorem maxFingers_v1_old {c : SessionConfig} (hv : c.hwVersion = .v1)
    (hera : eraOf c.firmwareVersion = .old) : maxFingers c = 4 := by
  simp only [maxFingers, hv, hera]

theorem maxFingers_v1_new {c : SessionConfig} (hv : c.hwVersion = .v1)
    (hera : eraOf c.firmwareVersion = .new) : maxFingers c = 3 := by
  simp only [maxFingers, hv, hera]

/-- In a session of era OLD the rocker buttons are reported with the capability bit (R156). -/
theorem rocker_isSome {s : State} (hera : eraOf s.cfg.firmwareVersion = .old) (v : Bool) :
    (rocker s v).isSome = reportsRocker s.cfg := by
  cases h : s.cfg.hasRocker <;> simp [rocker, reportsRocker, hera, h]

theorem reportsRocker_new {c : SessionConfig} (hera : eraOf c.firmwareVersion = .new) :
    reportsRocker c = false := by
  simp [reportsRocker, hera]

/-! ### The shape of a V2 or V3 frame -/

theorem semiMtReport_index (i : Fin 5) (active : Bool) (pos : Option Pos) :
    (semiMtReport i active pos).index = i := by
  cases active <;> rfl

/-- A semi-MT report has a position exactly when active, if an active slot was given one (R233). -/
theorem semiMtReport_consistent {active : Bool} {pos : Option Pos} (i : Fin 5)
    (h : active = true → pos.isSome = true) : (semiMtReport i active pos).consistent := by
  cases active
  case false => exact ⟨rfl, rfl⟩
  case true =>
    have hpos := h rfl
    exact ⟨Option.isSome_map.trans hpos, Option.isSome_map.trans hpos⟩

/-- A semi-MT frame has the shape of its variant when the positions it is built from are as many as
its fingers call for: one with any finger, a second with two (R233). -/
theorem semiMtFrame_shape {c : SessionConfig} {fingers : Nat} {pos1 pos2 legacy : Option Pos}
    (hv : c.hwVersion = .v2 ∨ c.hwVersion = .v3) (hfingers : fingers ≤ maxFingers c)
    (h1 : pos1.isSome = (fingers != 0)) (h2 : fingers = 2 → pos2.isSome = true)
    (hlegacy : legacy.isSome = (fingers != 0)) (pressure width : Byte) (left right : Bool) :
    (semiMtFrame c.reportsPressure fingers pos1 pos2 legacy pressure width left right).shape c := by
  refine ⟨hfingers, fun r hr => ?_, ?_⟩
  · simp only [semiMtFrame, semiMtReports, List.mem_cons, List.not_mem_nil, or_false] at hr
    obtain rfl | rfl := hr
    · exact semiMtReport_consistent 0 h1.trans
    · exact semiMtReport_consistent 1 fun h => h2 (beq_iff_eq.mp h)
  · have hshape : (semiMtFrame c.reportsPressure fingers pos1 pos2 legacy pressure width left
        right).shapeSemiMt c := by
      refine ⟨Option.isSome_map.trans hlegacy, Option.isSome_map.trans hlegacy, ?_, ?_, rfl, rfl,
        rfl, ?_⟩
      · cases c.reportsPressure <;> rfl
      · cases c.reportsPressure <;> rfl
      · simp only [semiMtFrame, semiMtReports, List.map_cons, List.map_nil,
          semiMtReport_index]
    obtain hv | hv := hv <;> rw [hv] <;> exact hshape

/-! ### The FOCAL frame -/

theorem focReport_active (i : Fin 5) (e : Slot) : (focReport i e).active = e.reported := by
  cases h : e.reported <;> simp [focReport, h]

theorem focReport_index (i : Fin 5) (e : Slot) : (focReport i e).index = i := by
  cases h : e.reported <;> simp [focReport, h]

theorem focReport_consistent (i : Fin 5) (e : Slot) : (focReport i e).consistent := by
  unfold focReport
  split <;> exact ⟨rfl, rfl⟩

/-- The reports run over the slot indices in order (R236). -/
theorem focReports_eq_map (v : Vector Slot 5) :
    focReports v = (List.finRange 5).map fun i => focReport i v[i] := rfl

/-- Settles O42: a report is active exactly when its slot is active and valid, so counting the
reports counts those slots. -/
theorem focalFrameReportsActiveAndValidSlots :
    Obligations.FocalFrameReportsActiveAndValidSlots := by
  unfold Obligations.FocalFrameReportsActiveAndValidSlots
  intro v pressed
  have hcount : (focReports v).countP SlotReport.active =
      (List.finRange 5).countP fun i => v[i].reported := by
    simp only [focReports_eq_map, List.countP_map, Function.comp_def, focReport_active]
  rw [focFrame, hcount]
  rfl

/-- A FOCAL frame reports all five slots and nothing else but the click state (R230, R236). -/
theorem focFrame_shape {c : SessionConfig} (hv : c.hwVersion = .focal) (v : Vector Slot 5)
    (pressed : Bool) : (focFrame v pressed).shape c := by
  refine ⟨?_, fun r hr => ?_, ?_⟩
  · rw [maxFingers, hv]
    exact List.countP_le_length
  · rw [focFrame, focReports_eq_map] at hr
    obtain ⟨i, -, rfl⟩ := List.mem_map.mp hr
    exact focReport_consistent i _
  · rw [hv]
    refine ⟨rfl, rfl, rfl, rfl, rfl, rfl, rfl, ?_⟩
    simp only [focFrame, focReports, List.map_cons, List.map_nil, focReport_index]

/-! ### Every frame has the shape of its variant -/

/-- The frame on the ports, if there is one, has the shape of the session's variant. -/
def FrameShaped (c : SessionConfig) (r : StepResult) : Prop := ∀ f, r.frame = some f → f.shape c

theorem frameShaped_of_none {r : StepResult} (h : r.frame = none) (c : SessionConfig) :
    FrameShaped c r := by
  intro f hf
  rw [h] at hf
  cases hf

theorem frameShaped_of_some {c : SessionConfig} {r : StepResult} {f : Frame}
    (h : r.frame = some f) (hf : f.shape c) : FrameShaped c r := by
  intro g hg
  cases h.symm.trans hg
  exact hf

/-- A V1 packet is discarded without a frame, or presents the frame of its count (R150). -/
theorem v1Packet_frameShaped {s : State} {fingers : Nat} {x y : BitVec 10}
    {left right : Bool} {forward back : Option Bool} (hv : s.cfg.hwVersion = .v1)
    (hfingers : fingers ≤ maxFingers s.cfg) (hforward : forward.isSome = reportsRocker s.cfg)
    (hback : back.isSome = reportsRocker s.cfg) :
    FrameShaped s.cfg (v1Packet fingers x y left right forward back s).out := by
  obtain ⟨-, h⟩ | ⟨-, h⟩ := v1Packet_cases fingers x y left right forward back s <;> rw [h]
  · exact frameShaped_of_none rfl _
  · exact frameShaped_of_some rfl (v1Frame_shape hv hfingers hforward hback ..)

/-- An operation of the session's era presents a V1 frame of that era (R151, R156). -/
theorem exec_v1_frameShaped {i : Instr} {s t : State} (hv : s.cfg.hwVersion = .v1)
    (hc : contextOf i = some (.v1, some s.era)) (h : exec i s = .next t) :
    FrameShaped s.cfg t.out := by
  cases hera : s.era <;> rw [hera] at hc <;> cases i <;> cases hc <;> cases h
  case old.v1Old o =>
    exact v1Packet_frameShaped hv (maxFingers_v1_old hv hera ▸ v1OldFingers_le o.f o.m)
      (rocker_isSome hera _) (rocker_isSome hera _)
  case new.v1New o =>
    have hrocker := reportsRocker_new hera
    exact v1Packet_frameShaped hv
      (maxFingers_v1_new hv hera ▸ Nat.le_of_lt_succ o.fingers.isLt) hrocker.symm hrocker.symm

/-- A V2 packet presents the frame of its count (R171). -/
theorem v2Packet_frameShaped {s : State} {fingers : Nat} {d : V2Decoded} {left right : Bool}
    (hv : s.cfg.hwVersion = .v2) (hfingers : fingers ≤ 4)
    (h1 : d.pos1.isSome = (fingers != 0)) (h2 : fingers = 2 → d.pos2.isSome = true)
    (hlegacy : d.legacy.isSome = (fingers != 0)) :
    FrameShaped s.cfg (v2Packet fingers d left right s).out := by
  have hmax : maxFingers s.cfg = 4 := by rw [maxFingers, hv]
  exact frameShaped_of_some rfl (semiMtFrame_shape (.inl hv) (hmax ▸ hfingers) h1 h2 hlegacy ..)

/-- A V2 operation presents the frame of its count, with the positions that count decodes to (R172
to R175). -/
theorem exec_v2_frameShaped {i : Instr} {oe : Option Era} {s t : State}
    (hv : s.cfg.hwVersion = .v2) (hc : contextOf i = some (.v2, oe)) (h : exec i s = .next t) :
    FrameShaped s.cfg t.out := by
  cases i <;> cases hc <;> cases h
  case v2F2 o => exact v2Packet_frameShaped hv (by decide) rfl (fun _ => rfl) rfl
  all_goals exact v2Packet_frameShaped hv (by decide) rfl nofun rfl

/-- A V3 packet is rejected without a frame, or presents the frame of its count (R191, R196). -/
theorem v3Packet_frameShaped {s : State} {fingers : Nat} {positions : List Pos}
    {pressure : Byte} {width : BitVec 4} {left right : Bool} {oc : OutcomeCode}
    (hv : s.cfg.hwVersion = .v3) (hfingers : fingers ≤ 3)
    (h1 : positions[0]?.isSome = (fingers != 0))
    (h2 : fingers = 2 → positions[1]?.isSome = true) :
    FrameShaped s.cfg (v3Packet fingers positions pressure width left right oc s).out := by
  have hmax : maxFingers s.cfg = 3 := by rw [maxFingers, hv]
  obtain ⟨-, h⟩ | ⟨-, h⟩ :=
    v3Packet_cases fingers positions pressure width left right oc s <;> rw [h]
  · exact frameShaped_of_none rfl _
  · exact frameShaped_of_some rfl (semiMtFrame_shape (.inr hv) (hmax ▸ hfingers) h1 h2 h1 ..)

/-- A V3 operation stores a HEAD without a frame, or is a V3 packet with the positions of its count
(R192 to R195). -/
theorem exec_v3_frameShaped {i : Instr} {oe : Option Era} {s t : State}
    (hv : s.cfg.hwVersion = .v3) (hc : contextOf i = some (.v3, oe)) (h : exec i s = .next t) :
    FrameShaped s.cfg t.out := by
  cases i <;> cases hc <;> cases h
  case v3Head p => exact frameShaped_of_none rfl _
  case v3Tail o =>
    split
    · exact v3Packet_frameShaped hv (by decide) rfl (fun _ => rfl)
    · exact v3Packet_frameShaped hv (by decide) rfl nofun
  all_goals exact v3Packet_frameShaped hv (by decide) rfl nofun

/-- The operation that a packet selects presents a frame of the session's variant. -/
theorem exec_decodePacket_frameShaped {s t : State} {p : Packet}
    (h : exec (decodePacket s.cfg.hwVersion s.era p) s = .next t) : FrameShaped s.cfg t.out := by
  have hc := contextOf_decodePacket s.cfg.hwVersion s.era p
  cases hv : s.cfg.hwVersion <;> rw [hv] at h hc
  case v1 => exact exec_v1_frameShaped hv hc h
  case v2 => exact exec_v2_frameShaped hv hc h
  case v3 => exact exec_v3_frameShaped hv hc h
  case focal =>
    obtain ⟨_, _, _, he⟩ := exec_eq_focResync hc s
    cases he.symm.trans h
    exact frameShaped_of_some rfl (focFrame_shape hv ..)

theorem dispatch_frameShaped {s t : State} (h : dispatch s = .next t) :
    FrameShaped t.cfg t.out := by
  rw [(dispatch_sameSession h).cfg]
  obtain ⟨-, he⟩ | ⟨-, he⟩ := dispatch_cases s <;> rw [he] at h
  · cases h
    exact frameShaped_of_none rfl _
  · exact exec_decodePacket_frameShaped h

/-- Of the port events only a byte presents a frame, and only by the packet it completes (R130). -/
theorem exec_decodeEvent_frame {e : Event} {s t : State} (h : exec (decodeEvent e) s = .next t) :
    t.out.frame = none ∨ ∃ u, dispatch u = .next t := by
  cases e with
  | byte b =>
    obtain ⟨-, -, p, -, ⟨-, hd⟩ | ⟨-, rfl⟩⟩ := execFeed_next h
    · exact .inr ⟨_, hd⟩
    · exact .inl rfl
  | init c =>
    obtain ⟨-, rfl⟩ := execInit_next h
    exact .inl rfl
  | disconnect =>
    obtain ⟨-, rfl⟩ := execDisconnect_next h
    exact .inl rfl
  | setParitycheck v =>
    obtain ⟨-, rfl⟩ := execSetParitycheck_next h
    exact .inl rfl
  | setDebug v =>
    obtain ⟨-, rfl⟩ := execSetDebug_next h
    exact .inl rfl

/-- A step presents no frame, or it dispatched a packet. -/
theorem step_frame {s t : State} (h : step s = .next t) :
    t.out.frame = none ∨ ∃ u, dispatch u = .next t := by
  cases hin : s.input with
  | nil =>
    cases (step_of_input_nil hin).symm.trans h
    exact .inl rfl
  | cons e es => exact exec_decodeEvent_frame ((step_of_input_cons hin).symm.trans h)

/-- Settles O17: a frame comes from the dispatch of a packet only, which performs an operation of the
session's own variant and era. -/
theorem everyFrameHasTheShapeOfItsVariant : Obligations.EveryFrameHasTheShapeOfItsVariant := by
  unfold Obligations.EveryFrameHasTheShapeOfItsVariant
  intro s t f h hf
  obtain hnone | ⟨u, hd⟩ := step_frame h
  · cases hnone.symm.trans hf
  · exact dispatch_frameShaped hd f hf

/-! ### The sink calls of a frame -/

@[simp] theorem sync_not_mem_absoluteCall (axis : Axis) (v : Option Coord) :
    SinkCall.sync ∉ absoluteCall axis v := by
  cases v <;> simp [absoluteCall]

@[simp] theorem sync_not_mem_buttonCall (button : Button) (v : Option Bool) :
    SinkCall.sync ∉ buttonCall button v := by
  cases v <;> simp [buttonCall]

theorem filterMap_slotReport_absoluteCall (axis : Axis) (v : Option Coord) :
    (absoluteCall axis v).filterMap SinkCall.slotReport = [] := by
  cases v <;> rfl

theorem filterMap_slotReport_buttonCall (button : Button) (v : Option Bool) :
    (buttonCall button v).filterMap SinkCall.slotReport = [] := by
  cases v <;> rfl

/-- The `report_slot` calls carry the slot reports they were made from (R238). -/
theorem filterMap_slotReport_map (reports : List SlotReport) :
    (reports.map fun r => SinkCall.reportSlot r.index r.active r.x r.y).filterMap
      SinkCall.slotReport = reports := by
  rw [List.filterMap_map]
  exact List.filterMap_some

/-- Settles O58: the calls before the last are the absolute, slot and button calls, of which only the
slot calls carry a report and none is `sync()`. -/
theorem sinkCallsEndInOneSync : Obligations.SinkCallsEndInOneSync := by
  unfold Obligations.SinkCallsEndInOneSync
  refine ⟨fun f => ⟨_, rfl, ?_, ?_⟩, fun r h => ?_⟩
  · simp
  · simp only [List.filterMap_append, filterMap_slotReport_absoluteCall,
      filterMap_slotReport_buttonCall, filterMap_slotReport_map, List.nil_append, List.append_nil]
  · rw [stepCalls, h]

end Sys2Proof.Machine
end

section
/-! The host operations from inside and from outside their session (R250 to R255, R293), and the
output ports of a step, which agree with its outcome code (R260). -/

namespace Sys2Proof.Machine

/-! ### The host operations -/

/-- Settles O53, by the live branch of DISCONNECT. -/
theorem disconnectDropsEverythingSilently : Obligations.DisconnectDropsEverythingSilently := by
  unfold Obligations.DisconnectDropsEverythingSilently
  exact fun s hl => if_pos hl

/-- Settles O54, by the live branch of SET_PARITYCHECK. -/
theorem setParitycheckWritesOneFlag : Obligations.SetParitycheckWritesOneFlag := by
  unfold Obligations.SetParitycheckWritesOneFlag
  exact fun v s hl => if_pos hl

/-- Settles O55, by the live branch of SET_DEBUG. -/
theorem setDebugWritesOneFlag : Obligations.SetDebugWritesOneFlag := by
  unfold Obligations.SetDebugWritesOneFlag
  exact fun v s hl => if_pos hl

/-- Settles O56, by the branch of each operation outside its session. -/
theorem operationsOutsideTheirSessionAreRefused :
    Obligations.OperationsOutsideTheirSessionAreRefused := by
  unfold Obligations.OperationsOutsideTheirSessionAreRefused
  refine fun s => ⟨fun hdead => ?_, fun hlive c => if_pos hlive⟩
  have hnot : ¬ s.sessionLive = true := ne_true_of_eq_false hdead
  exact ⟨fun b => if_neg hnot, if_neg hnot, fun v => if_neg hnot, fun v => if_neg hnot⟩

/-- Settles O57: INIT reads nothing of a disconnected session but the two fields of the outside
world, in which the two sessions agree. -/
theorem nothingSurvivesDisconnectThenInit : Obligations.NothingSurvivesDisconnectThenInit := by
  unfold Obligations.NothingSurvivesDisconnectThenInit
  intro c s₁ s₂ hl₁ hl₂ hmask hinput
  refine ⟨_, _, _, disconnectDropsEverythingSilently s₁ hl₁,
    disconnectDropsEverythingSilently s₂ hl₂, initResetsTheBlock c _ rfl, ?_⟩
  rw [initResetsTheBlock c _ rfl, hmask, hinput]

/-! ### The ports at each end of a step -/

theorem OutcomeCode.ne_none_of_hasFrame {oc : OutcomeCode} (h : oc.hasFrame = true) :
    oc ≠ .none := by
  rintro rfl
  cases h

/-- Ports that are idle agree with the outcome NONE. -/
theorem idle_consistent : StepResult.idle.consistent := ⟨rfl, rfl⟩

/-- A packet that ends with a frame must end in an outcome of the table's frame column (R260). -/
theorem emitFrame_consistent {oc : OutcomeCode} (h : oc.hasFrame = true) (f : Frame) (s : State) :
    (emitFrame f oc s).out.consistent :=
  ⟨(bne_iff_ne.mpr (OutcomeCode.ne_none_of_hasFrame h)).symm, h.symm⟩

/-- A packet that ends without a frame must end in one of the other outcomes, and not in NONE (R260,
R270). -/
theorem raiseOutcome_consistent (oc : OutcomeCode) (hne : oc ≠ .none) (h : oc.hasFrame = false)
    (s : State) : (raiseOutcome oc s).out.consistent :=
  ⟨(bne_iff_ne.mpr hne).symm, h.symm⟩

/-! ### The ports of each operation -/

/-- A V1 packet is discarded without a frame, or presents one (R150). -/
theorem v1Packet_consistent (fingers : Nat) (x y : BitVec 10) (left right : Bool)
    (forward back : Option Bool) (s : State) :
    (v1Packet fingers x y left right forward back s).out.consistent := by
  obtain ⟨-, h⟩ | ⟨-, h⟩ := v1Packet_cases fingers x y left right forward back s <;> rw [h]
  · exact raiseOutcome_consistent .v1JumpyDiscard nofun rfl _
  · exact emitFrame_consistent rfl _ _

/-- A V3 packet is rejected without a frame, or presents one with the outcome it came with (R191,
R196). -/
theorem v3Packet_consistent {oc : OutcomeCode} (hoc : oc.hasFrame = true) (fingers : Nat)
    (positions : List Pos) (pressure : Byte) (width : BitVec 4) (left right : Bool) (s : State) :
    (v3Packet fingers positions pressure width left right oc s).out.consistent := by
  obtain ⟨-, h⟩ | ⟨-, h⟩ := v3Packet_cases fingers positions pressure width left right oc s <;>
    rw [h]
  · exact raiseOutcome_consistent .v3BoundsReject nofun rfl _
  · exact emitFrame_consistent hoc _ _

/-- A Rel packet presents its frame with either of its outcomes (R217, R260). -/
theorem relOutcome_hasFrame (o : FocRelForm) : (relOutcome o).hasFrame = true := by
  unfold relOutcome
  split <;> rfl

/-- Every packet operation leaves the strobe and the frame that its outcome code asks for. -/
theorem exec_packetOp_consistent {i : Instr} (hi : i.isPacketOp = true) {s t : State}
    (h : exec i s = .next t) : t.out.consistent := by
  cases i
  case v1Old | v1New =>
    cases h
    exact v1Packet_consistent ..
  case v3F0 | v3F1 | v3F3 =>
    cases h
    exact v3Packet_consistent rfl ..
  case v3Head =>
    cases h
    exact raiseOutcome_consistent .v3HeadStored nofun rfl _
  case v3Tail =>
    cases h
    split
    · exact v3Packet_consistent rfl ..
    · exact v3Packet_consistent rfl ..
  case focAbs o =>
    obtain ⟨-, he⟩ | ⟨_, -, he⟩ := execFocAbs_cases o s <;> cases he.symm.trans h
    · exact emitFrame_consistent rfl _ _
    · exact emitFrame_consistent rfl _ _
  case focRel o =>
    cases h
    exact emitFrame_consistent (relOutcome_hasFrame o) _ _
  case feed | init | disconnect | setParitycheck | setDebug => cases hi
  all_goals
    cases h
    exact emitFrame_consistent rfl _ _

/-- A completed packet is dropped without a frame, or its operation drives the ports (R133,
R144). -/
theorem dispatch_consistent {s t : State} (h : dispatch s = .next t) : t.out.consistent := by
  obtain ⟨-, he⟩ | ⟨-, he⟩ := dispatch_cases s
  · cases he.symm.trans h
    exact raiseOutcome_consistent .v1ParityDrop nofun rfl _
  · exact exec_packetOp_consistent (decodePacket_isPacketOp ..) (he.symm.trans h)

/-- Only a byte that completes a packet drives the ports; any other event leaves them idle (R130,
R250). -/
theorem exec_decodeEvent_consistent {e : Event} {s t : State}
    (h : exec (decodeEvent e) s = .next t) : t.out.consistent := by
  cases e with
  | byte b =>
    obtain ⟨-, -, p, -, ⟨-, hd⟩ | ⟨-, rfl⟩⟩ := execFeed_next h
    · exact dispatch_consistent hd
    · exact idle_consistent
  | init c =>
    obtain ⟨-, rfl⟩ := execInit_next h
    exact idle_consistent
  | disconnect =>
    obtain ⟨-, rfl⟩ := execDisconnect_next h
    exact idle_consistent
  | setParitycheck v =>
    obtain ⟨-, rfl⟩ := execSetParitycheck_next h
    exact idle_consistent
  | setDebug v =>
    obtain ⟨-, rfl⟩ := execSetDebug_next h
    exact idle_consistent

/-- Settles O16: a step without an event idles the ports, and the operation of an event leaves them
consistent. -/
theorem outputPortsAgreeWithTheOutcome : Obligations.OutputPortsAgreeWithTheOutcome := by
  unfold Obligations.OutputPortsAgreeWithTheOutcome
  intro s t h
  cases hin : s.input with
  | nil =>
    cases (step_of_input_nil hin).symm.trans h
    exact idle_consistent
  | cons e es => exact exec_decodeEvent_consistent ((step_of_input_cons hin).symm.trans h)

end Sys2Proof.Machine
end
